-- ==== Sys2Proof/Word.lean ====
section
/-! DEFINITION. The word types of the ADPCM block decoder (spec/00_scope.md R7, R9). Only names for widths: arithmetic is in Machine/Arith.lean. -/

namespace Sys2Proof

/-- A byte of IN (R40). -/
abbrev Byte := BitVec 8

/-- A 4-bit nibble code, `NIB_W` = 4 (R7, R82). -/
abbrev Nibble := BitVec 4

/-- A 16-bit two's-complement word, `SAMPLE_W` = 16 (R7): samples, delta, coefficients, multipliers, XC elements. -/
abbrev S16 := BitVec 16

/-- A count or a cursor, `CNT_W` = 32 bits (R7, R30 to R35). -/
abbrev Count := BitVec 32

/-- The 32-bit pattern of an IEEE 754 binary32 value: one element of OUT (R53, R118). -/
abbrev F32 := BitVec 32

end Sys2Proof
end

