-- ==== Sys2Proof/Config.lean ====
section
/-! DEFINITION. What an implementation of the block fixes (spec/00_scope.md R7): sizes and the type of a coefficient pair. The parameter VALUES of R7 (tables, floors, divisors) stand in Machine/Params.lean. There is no free value in this model: the spec gives every instruction's every result. -/

namespace Sys2Proof

/-- One linear-prediction coefficient pair (A, B), both s16 (R12, R37). -/
structure CoefPair where
  a : S16
  b : S16
  deriving DecidableEq, Repr

namespace Config

/-- `STD_COUNT`: the number of built-in coefficient pairs (R7). -/
abbrev stdCount : Nat := 7

/-- `ADAPT_COUNT`: the entries of the adaptation table (R7). -/
abbrev adaptCount : Nat := 16

/-- `PRE_BYTES`: the length of the preamble in bytes (R7). -/
abbrev preBytes : Nat := 7

end Config

end Sys2Proof
end

