-- ==== Sys2Proof/Syntax.lean ====
section
/-! DEFINITION. The stream items of the block, which the spec treats as its instructions (spec/30_encoding.md R80): one constructor per mnemonic of spec/opcode_table.json. -/

namespace Sys2Proof

/-- The three bit formats of IN (R81, R82): P the 7-byte preamble, N the 4-bit nibble code, B the pair byte. Position alone decides which one applies (R80, R93). -/
inductive Format where
  | P
  | N
  | B
  deriving DecidableEq, Repr

/-- The instructions. In the preamble forms `d` is the initial delta, `c` the current sample, `q` the previous sample (R81, R85). The table's six `PRE.X` rows are one instruction, rule R168, whose operand `p` is the predictor index; the split into rows is only what a match and a mask can express (R88). -/
inductive Instr where
  /-- `PRE.S0`: preamble with standard coefficient pair 0 (R161). -/
  | preS0 (d c q : S16)
  /-- `PRE.S1`: preamble with standard coefficient pair 1 (R162). -/
  | preS1 (d c q : S16)
  /-- `PRE.S2`: preamble with standard coefficient pair 2 (R163). -/
  | preS2 (d c q : S16)
  /-- `PRE.S3`: preamble with standard coefficient pair 3 (R164). -/
  | preS3 (d c q : S16)
  /-- `PRE.S4`: preamble with standard coefficient pair 4 (R165). -/
  | preS4 (d c q : S16)
  /-- `PRE.S5`: preamble with standard coefficient pair 5 (R166). -/
  | preS5 (d c q : S16)
  /-- `PRE.S6`: preamble with standard coefficient pair 6 (R167). -/
  | preS6 (d c q : S16)
  /-- `PRE.X`: preamble whose coefficient pair comes from XC, predictor index `p` in 7..255 (R168). -/
  | preX (p : Byte) (d c q : S16)
  /-- `NIB.0`: nibble code 0x0 (R180). -/
  | nib0
  /-- `NIB.1`: nibble code 0x1 (R181). -/
  | nib1
  /-- `NIB.2`: nibble code 0x2 (R182). -/
  | nib2
  /-- `NIB.3`: nibble code 0x3 (R183). -/
  | nib3
  /-- `NIB.4`: nibble code 0x4 (R184). -/
  | nib4
  /-- `NIB.5`: nibble code 0x5 (R185). -/
  | nib5
  /-- `NIB.6`: nibble code 0x6 (R186). -/
  | nib6
  /-- `NIB.7`: nibble code 0x7 (R187). -/
  | nib7
  /-- `NIB.8`: nibble code 0x8 (R188). -/
  | nib8
  /-- `NIB.9`: nibble code 0x9 (R189). -/
  | nib9
  /-- `NIB.A`: nibble code 0xA (R190). -/
  | nibA
  /-- `NIB.B`: nibble code 0xB (R191). -/
  | nibB
  /-- `NIB.C`: nibble code 0xC (R192). -/
  | nibC
  /-- `NIB.D`: nibble code 0xD (R193). -/
  | nibD
  /-- `NIB.E`: nibble code 0xE (R194). -/
  | nibE
  /-- `NIB.F`: nibble code 0xF (R195). -/
  | nibF
  /-- `PAIR`: the container byte 0xHL, that is `NIB.H` then `NIB.L` (R90). -/
  | pair (h l : Nibble)
  deriving DecidableEq, Repr

/-- The format an instruction is written in (R80 to R82). -/
def Instr.format : Instr → Format
  | .preS0 _ _ _ => .P
  | .preS1 _ _ _ => .P
  | .preS2 _ _ _ => .P
  | .preS3 _ _ _ => .P
  | .preS4 _ _ _ => .P
  | .preS5 _ _ _ => .P
  | .preS6 _ _ _ => .P
  | .preX _ _ _ _ => .P
  | .nib0 => .N
  | .nib1 => .N
  | .nib2 => .N
  | .nib3 => .N
  | .nib4 => .N
  | .nib5 => .N
  | .nib6 => .N
  | .nib7 => .N
  | .nib8 => .N
  | .nib9 => .N
  | .nibA => .N
  | .nibB => .N
  | .nibC => .N
  | .nibD => .N
  | .nibE => .N
  | .nibF => .N
  | .pair _ _ => .B

end Sys2Proof
end

