-- ==== Sys2Proof/WellFormed.lean ====
section
/-! DEFINITION. Which instructions have an encoding. The operand types already hold every other bound (every s16, every nibble code and every pair byte is legal, spec/30_encoding.md R91); the one check is the range of `PRE.X`'s predictor index. -/

namespace Sys2Proof

/-- An instruction is well formed when some bytes of IN encode it: the predictor index of `PRE.X` is in 0x07..0xFF (R88, R168). -/
def Instr.wf : Instr → Bool
  | .preS0 _ _ _ => true
  | .preS1 _ _ _ => true
  | .preS2 _ _ _ => true
  | .preS3 _ _ _ => true
  | .preS4 _ _ _ => true
  | .preS5 _ _ _ => true
  | .preS6 _ _ _ => true
  | .preX p _ _ _ => decide (Config.stdCount ≤ p.toNat)
  | .nib0 => true
  | .nib1 => true
  | .nib2 => true
  | .nib3 => true
  | .nib4 => true
  | .nib5 => true
  | .nib6 => true
  | .nib7 => true
  | .nib8 => true
  | .nib9 => true
  | .nibA => true
  | .nibB => true
  | .nibC => true
  | .nibD => true
  | .nibE => true
  | .nibF => true
  | .pair _ _ => true

end Sys2Proof
end

