-- ==== Sys2Proof/Decode.lean ====
section
/-! DEFINITION. The decoder and, after it, the encoder (spec/30_encoding.md). The decoder is total: every byte list gives an instruction and the bytes after it, or a named rejection. Whether a predictor index has a pair is no matter of decoding: it depends on ARG_NEXTRA, not on the byte (R92). -/

namespace Sys2Proof

/-- Why bytes are no instruction of the format asked for. -/
inductive DecodeError where
  /-- Format P needs seven bytes (R81). -/
  | truncatedPreamble
  /-- Formats N and B need one byte (R82). -/
  | noByte
  /-- A format-N item held alone in a byte has bits 7:4 zero, since only bits 3:0 are the code (R82). -/
  | notOneNibble
  deriving DecidableEq, Repr

/-- A little-endian 16-bit field: the byte at the lower offset is bits 7:0 (R50, R85). -/
def le16 (lo hi : Byte) : S16 := hi ++ lo

/-- Bits 7:4 of a byte, the half decoded first (R51, R82). -/
def highNibble (b : Byte) : Nibble := b.extractLsb' 4 4

/-- Bits 3:0 of a byte, the half decoded second (R51, R82). -/
def lowNibble (b : Byte) : Nibble := b.extractLsb' 0 4

/-- The code map of byte 0 of a preamble (R88), with the operands of R85. -/
def decodePreamble (b0 b1 b2 b3 b4 b5 b6 : Byte) : Instr :=
  match b0.toNat with
  | 0 => .preS0 (le16 b1 b2) (le16 b3 b4) (le16 b5 b6)
  | 1 => .preS1 (le16 b1 b2) (le16 b3 b4) (le16 b5 b6)
  | 2 => .preS2 (le16 b1 b2) (le16 b3 b4) (le16 b5 b6)
  | 3 => .preS3 (le16 b1 b2) (le16 b3 b4) (le16 b5 b6)
  | 4 => .preS4 (le16 b1 b2) (le16 b3 b4) (le16 b5 b6)
  | 5 => .preS5 (le16 b1 b2) (le16 b3 b4) (le16 b5 b6)
  | 6 => .preS6 (le16 b1 b2) (le16 b3 b4) (le16 b5 b6)
  | _ => .preX b0 (le16 b1 b2) (le16 b3 b4) (le16 b5 b6)

/-- The nibble code map, in code order (R89). -/
def nibbleTable : Vector Instr 16 :=
  #v[.nib0, .nib1, .nib2, .nib3, .nib4, .nib5, .nib6, .nib7, .nib8, .nib9, .nibA, .nibB, .nibC, .nibD, .nibE, .nibF]

/-- A nibble code is an instruction, whichever its value (R89, R91). -/
def decodeNibble (n : Nibble) : Instr := nibbleTable.get n.toFin

/-- A pair byte is `NIB.H` then `NIB.L`, whichever its value (R90). -/
def decodePair (b : Byte) : Instr := .pair (highNibble b) (lowNibble b)

/-- The decoder: the first instruction of the given format in a byte list, and the bytes after it. -/
def decode : Format → List Byte → Except DecodeError (Instr × List Byte)
  | .P, b0 :: b1 :: b2 :: b3 :: b4 :: b5 :: b6 :: rest => .ok (decodePreamble b0 b1 b2 b3 b4 b5 b6, rest)
  | .P, _ => .error .truncatedPreamble
  | .N, b :: rest => if highNibble b = 0 then .ok (decodeNibble (lowNibble b), rest) else .error .notOneNibble
  | .N, [] => .error .noByte
  | .B, b :: rest => .ok (decodePair b, rest)
  | .B, [] => .error .noByte

/-- The seven bytes of a preamble: `p, d & 0xFF, (d >> 8) & 0xFF, ...` (R95). -/
def encodePreamble (p : Byte) (d c q : S16) : List Byte :=
  [p, d.extractLsb' 0 8, d.extractLsb' 8 8, c.extractLsb' 0 8, c.extractLsb' 8 8, q.extractLsb' 0 8, q.extractLsb' 8 8]

/-- The encoder (R81, R82, R88, R89, R95). A nibble code alone stands in bits 3:0 of a byte. -/
def encode : Instr → List Byte
  | .preS0 d c q => encodePreamble 0x00#8 d c q
  | .preS1 d c q => encodePreamble 0x01#8 d c q
  | .preS2 d c q => encodePreamble 0x02#8 d c q
  | .preS3 d c q => encodePreamble 0x03#8 d c q
  | .preS4 d c q => encodePreamble 0x04#8 d c q
  | .preS5 d c q => encodePreamble 0x05#8 d c q
  | .preS6 d c q => encodePreamble 0x06#8 d c q
  | .preX p d c q => encodePreamble p d c q
  | .nib0 => [0x00#8]
  | .nib1 => [0x01#8]
  | .nib2 => [0x02#8]
  | .nib3 => [0x03#8]
  | .nib4 => [0x04#8]
  | .nib5 => [0x05#8]
  | .nib6 => [0x06#8]
  | .nib7 => [0x07#8]
  | .nib8 => [0x08#8]
  | .nib9 => [0x09#8]
  | .nibA => [0x0A#8]
  | .nibB => [0x0B#8]
  | .nibC => [0x0C#8]
  | .nibD => [0x0D#8]
  | .nibE => [0x0E#8]
  | .nibF => [0x0F#8]
  | .pair h l => [h ++ l]

/-- The format a table word is read in. The table gives `PRE` rows 56 bits, `NIB` rows 4 bits and the `PAIR` row 8 bits, and numbers counted in whole bytes cannot tell a 4-bit row from an 8-bit one: a word below 16 of at most one byte is read as a nibble code, any other one-byte word as a pair byte. DESIGN CHOICE, safe (notes/assumptions/11.md). -/
def tableFormat (nbits w : Nat) : Format :=
  if 8 < nbits then .P else if nbits ≤ 4 then .N else if w < 16 then .N else .B

/-- The bytes of a table word in the order IN holds them. spec/opcode_table.json numbers a preamble as one 56-bit word with byte 0 in bits 55:48 (its note), so byte `k` is bits `55-8k : 48-8k`. -/
def tableBytes (nbits w : Nat) : List Byte :=
  match tableFormat nbits w with
  | .P => (List.range Config.preBytes).map fun k => BitVec.ofNat 8 (w / 2 ^ (8 * (6 - k)))
  | .N => [BitVec.ofNat 8 w]
  | .B => [BitVec.ofNat 8 w]

/-- The instruction the decoder reads from an opcode-table word (the host's question). -/
def decodeTableWord (nbits w : Nat) : Option Instr :=
  if w < 2 ^ nbits then
    match decode (tableFormat nbits w) (tableBytes nbits w) with
    | .ok (i, _) => some i
    | .error _ => none
  else none

end Sys2Proof
end

