-- ==== Sys2Proof/Machine/Params.lean ====
section
/-! DEFINITION. The parameter values of the block (spec/00_scope.md R7). The two tables are read-only state (R20): State holds them, and reset gives them these values. -/

namespace Sys2Proof.Config

/-- `SCALE`: the divisor of the prediction and of the delta update (R7, R130, R140). -/
def scale : Int := 256

/-- `DELTA_MIN`: the floor of the adapted delta (R7, R116). -/
def deltaMin : Int := 16

/-- `DELTA_MAX`: the ceiling of the adapted delta. The spec's own decision D5 (R116, R142; notes/assumptions/13.md). -/
def deltaMax : Int := 32767

/-- `NORM_POS`: the divisor for positive samples (R7, R117). -/
def normPos : Nat := 32767

/-- `NORM_NEG`: the divisor for negative samples (R7, R117). -/
def normNeg : Nat := 32768

/-- `STD_COEF[0..6]` (R37). Pair 0 is the source's; PRESUMED: pairs 1 to 6 are the spec's defaults from general knowledge (D20, G1), unsafe (notes/assumptions/2.md). -/
def stdCoef : Vector CoefPair stdCount :=
  #v[⟨256, 0⟩, ⟨512, -256⟩, ⟨0, 0⟩, ⟨192, 64⟩, ⟨240, 0⟩, ⟨460, -208⟩, ⟨392, -232⟩]

/-- `ADAPT[0..15]` (R38). Entry 0 is the source's; PRESUMED: entries 1 to 15 are the spec's defaults from general knowledge (D20, G2), unsafe (notes/assumptions/2.md). -/
def adapt : Vector S16 adaptCount :=
  #v[230, 230, 230, 230, 307, 409, 512, 614, 768, 614, 512, 409, 307, 230, 230, 230]

end Sys2Proof.Config
end

