-- ==== Sys2Proof/Machine/State.lean ====
section
/-! DEFINITION. The whole state of one DEC and of the HOST memory it works on (spec/10_state.md R20, R40), the reasons a step can stop, and the state after reset (spec/70_reset_and_hazards.md R231). INVENTORY.md lists every field with its rule. -/

namespace Sys2Proof.Machine

/-- A memory of `w`-bit elements: (address, element) pairs, addresses strictly rising. An address that is not listed holds no value the model knows: reading it gives `none` (notes/assumptions/6.md, 7.md). -/
abbrev Memory (w : Nat) := List (Nat × BitVec w)

/-- `PHASE`: which step DEC takes next (R28). -/
inductive Phase where
  /-- after reset, no decode has run -/
  | idle
  /-- arguments checked, preamble latched; the next step writes OUT[0] -/
  | seed0
  /-- first seed written; the next step writes OUT[1] -/
  | seed1
  /-- both seeds written; NIB steps and then FINISH -/
  | run
  /-- the block decoded without error -/
  | done
  /-- the decode ended with an error -/
  | fault
  deriving DecidableEq, Repr

/-- `STATUS`: the result reported to the HOST (R33). The numbers are `Status.code` in Machine/Flags.lean. -/
inductive Status where
  | ok
  | malformedPreamble
  | invalidSampleCount
  | bufferTooSmall
  deriving DecidableEq, Repr

/-- The three errors of the block, a closed taxonomy (R200). -/
inductive BlockError where
  /-- predictor index with no coefficient pair (R204) -/
  | malformedPreamble
  /-- sample count odd or below 2 (R202) -/
  | invalidSampleCount
  /-- output capacity below the sample count (R203) -/
  | bufferTooSmall
  deriving DecidableEq, Repr

/-- What the HOST supplies with a START: the three argument registers, and where in its own storage the regions IN, XC and OUT of this decode begin (R151, R235). -/
structure Launch where
  count : Count
  cap : Count
  nextra : Count
  inBase : Nat
  xcBase : Nat
  outBase : Nat
  deriving DecidableEq, Repr

/-- A move of the HOST. It moves only in a resting phase (R29, R66, R238). There is no cancel and no reset move (R208, R232). -/
inductive HostMove where
  /-- START, the DECODE command (R151) -/
  | start (l : Launch)
  /-- a store to the byte of its IN storage at a position (R66, R71) -/
  | writeIn (addr : Nat) (b : Byte)
  /-- a store to an element of its extra-coefficient storage (R54, R61) -/
  | writeXc (addr : Nat) (v : S16)
  /-- a store to an element of its output storage (R67) -/
  | writeOut (addr : Nat) (f : F32)
  deriving DecidableEq, Repr

/-- Why the machine stops with a fault. The block itself has no such event: its three errors are next states (R206). Both are safe: the model stops where the spec gives no step. -/
inductive Fault where
  /-- raised by `step` in a resting phase when the HOST has no move left: "In a resting phase DEC has no step of its own" (R29). Safe: a claim about a later state cannot be proved from it. -/
  | resting
  /-- raised by `step` in PHASE = RUN with NIDX beyond ARG_COUNT - 2, where R150 gives no step. No run reaches it (the invariant of Safety.lean). Safe. -/
  | noStep
  deriving DecidableEq, Repr

/-- Why the model gives a step no meaning. -/
inductive Refusal where
  /-- raised by `exec` for an instruction that has no meaning yet; no arm of this model uses it. Safe. -/
  | notModelled (mnemonic : String)
  /-- raised by `step` when it reads a byte of IN that the HOST did not supply: the spec gives such a decode no meaning (R221, R236, U5, D15). Safe: toward unprovable. -/
  | inputTooShort
  /-- raised by the `PRE.X` meaning when ARG_NEXTRA overstates the table and the XC element does not exist (R237, U10). Safe: toward unprovable. -/
  | extraTableTooShort
  /-- raised by an instruction's meaning in a state in which R150 takes no step for it: a preamble when no START is being checked, a nibble code outside RUN or past the last nibble, a pair byte at an odd nibble index. `step` never asks for it. Safe. -/
  | outOfPhase
  deriving DecidableEq, Repr

/-- The machine's state: plain data. -/
structure State where
  -- working registers (R21, R26)
  delta : S16
  cur : S16
  prev : S16
  coefA : S16
  coefB : S16
  predictor : Byte
  -- sequencing (R27, R28)
  nidx : Count
  phase : Phase
  -- the model's own: START has been issued and CHECK follows at once (R150; notes/assumptions/3.md)
  startPending : Bool
  -- argument registers (R30 to R32)
  argCount : Count
  argCap : Count
  argNextra : Count
  -- result registers (R33 to R35)
  status : Status
  inConsumed : Count
  outProduced : Count
  -- read-only tables (R37, R38)
  stdCoef : Vector CoefPair Config.stdCount
  adapt : Vector S16 Config.adaptCount
  -- HOST storage behind the three address spaces (R40)
  inMem : Memory 8
  xcMem : Memory 16
  outMem : Memory 32
  -- where the regions designated by the last START begin (R151)
  inBase : Nat
  xcBase : Nat
  outBase : Nat
  -- the model's own: the moves the HOST has still to make, in order (R8, R29; notes/assumptions/4.md)
  host : List HostMove
  deriving DecidableEq, Repr

/-- The state right after reset (R231). The registers R231 leaves unspecified hold zero: DESIGN CHOICE, unsafe (notes/assumptions/1.md). Memory lists nothing and no HOST move is pending. -/
def State.reset : State where
  delta := 0
  cur := 0
  prev := 0
  coefA := 0
  coefB := 0
  predictor := 0
  nidx := 0
  phase := .idle
  startPending := false
  argCount := 0
  argCap := 0
  argNextra := 0
  status := .ok
  inConsumed := 0
  outProduced := 0
  stdCoef := Config.stdCoef
  adapt := Config.adapt
  inMem := []
  xcMem := []
  outMem := []
  inBase := 0
  xcBase := 0
  outBase := 0
  host := []

end Sys2Proof.Machine
end

