-- ==== Sys2Proof/Machine/Arith.lean ====
section
/-! DEFINITION. The pure functions of the block: integer helpers, float normalisation, the sample predictor and the delta adaptation (spec/40_helpers.md, 41_sample_predictor.md, 42_delta_adaptation.md). Intermediates are exact integers; a result is narrowed to 16 bits by clamping, never by truncation (R111, R113). -/

namespace Sys2Proof.Machine

/-- Integer division truncating toward zero, for a positive divisor (R110). -/
def tdiv (a b : Int) : Int := if 0 ≤ a then a / b else -((-a) / b)

/-- A 4-bit two's-complement value extended to 16 bits (R112). -/
def signExtend4 (n : Nibble) : S16 := n.signExtend 16

/-- Clamp an integer to `lo..hi` (R114). -/
def saturate (lo hi v : Int) : Int := if hi < v then hi else if v < lo then lo else v

/-- Clamp to s16 (R115). -/
def saturate16 (v : Int) : S16 := BitVec.ofInt 16 (saturate (-32768) 32767 v)

/-- The narrowing of the adapted delta: floor 16, ceiling `DELTA_MAX` (R116). The ceiling is the spec's decision D5 (notes/assumptions/13.md). -/
def clampDelta (t : Int) : S16 := BitVec.ofInt 16 (saturate Config.deltaMin Config.deltaMax t)

/-- The exponent of a positive rational: the `e` with `2^e ≤ n/d < 2^(e+1)`. -/
def ratioExponent (n d : Nat) : Int :=
  let e : Int := (Nat.log2 n : Int) - Nat.log2 d
  if n * 2 ^ (-e).toNat < d * 2 ^ e.toNat then e - 1 else e

/-- A rational `num/den` rounded to the nearest natural number, ties to even. -/
def roundHalfEven (num den : Nat) : Nat :=
  let i := num / den
  let r := num % den
  if den < 2 * r ∨ (2 * r = den ∧ i % 2 = 1) then i + 1 else i

/-- `RN32(q)` for `q = ±n/d`, `n` and `d` positive, with a normal result: the nearest binary32, ties to even (R118). The significand is `q` scaled to `2^23 .. 2^24`; where it rounds up to `2^24`, adding it to the exponent field carries into the exponent. -/
def rn32 (negative : Bool) (n d : Nat) : F32 :=
  let e := ratioExponent n d
  let m := roundHalfEven (n * 2 ^ (23 - e).toNat) (d * 2 ^ (e - 23).toNat)
  BitVec.ofNat 32 ((if negative then 2 ^ 31 else 0) + (e + 127).toNat * 2 ^ 23 + (m - 2 ^ 23))

/-- A sample as a float in [-1, 1]: divided by 32767 above zero and by 32768 below; zero gives +0.0 (R117). -/
def normalizeToFloat (s : S16) : F32 :=
  if 0 < s.toInt then rn32 false s.toInt.natAbs Config.normPos
  else if s.toInt < 0 then rn32 true s.toInt.natAbs Config.normNeg
  else 0

/-- The linear prediction: the two products are added first and the sum is divided once (R130, R131). -/
def prediction (cur prev a b : S16) : Int := tdiv (cur.toInt * a.toInt + prev.toInt * b.toInt) Config.scale

/-- `ComputeSample` (R130): the delta term is added after the division and the whole sum is saturated once. -/
def computeSample (n : Nibble) (cur prev a b delta : S16) : S16 :=
  saturate16 (prediction cur prev a b + delta.toInt * (signExtend4 n).toInt)

/-- `ADAPT[n]`, the nibble read unsigned as an index (R86, R143). -/
def adaptEntry (adapt : Vector S16 Config.adaptCount) (n : Nibble) : S16 := adapt.get n.toFin

/-- `ComputeDelta` (R140): the clamp is applied to the wide quotient (R141). -/
def computeDelta (adapt : Vector S16 Config.adaptCount) (n : Nibble) (oldDelta : S16) : S16 :=
  clampDelta (tdiv ((adaptEntry adapt n).toInt * oldDelta.toInt) Config.scale)

end Sys2Proof.Machine
end

