-- ==== Sys2Proof/Machine/Flags.lean ====
section
/-! DEFINITION. The block's only flag is STATUS (spec/10_state.md R33); this file holds its numbers and the conditions of the three errors it reports (spec/60_exceptions.md R200 to R204). -/

namespace Sys2Proof.Machine

/-- The `STATUS` numbers: the spec's decision D7 (R33, R201). -/
def Status.code : Status → Nat
  | .ok => 0
  | .malformedPreamble => 1
  | .invalidSampleCount => 2
  | .bufferTooSmall => 3

/-- The value an error gives `STATUS` (R201). -/
def BlockError.status : BlockError → Status
  | .malformedPreamble => .malformedPreamble
  | .invalidSampleCount => .invalidSampleCount
  | .bufferTooSmall => .bufferTooSmall

/-- InvalidSampleCount: `ARG_COUNT < 2`, read signed, or odd (R202). -/
def badCount (s : State) : Bool := decide (s.argCount.toInt < 2 ∨ s.argCount.toInt % 2 = 1)

/-- BufferTooSmall: `ARG_CAP < ARG_COUNT` (R203). -/
def capTooSmall (s : State) : Bool := decide ((s.argCap.toNat : Int) < s.argCount.toInt)

/-- MalformedPreamble: the predictor index, read unsigned, is 7 or more and the extra table has no pair for it (R204). -/
def unserved (p : Byte) (s : State) : Bool :=
  decide (Config.stdCount ≤ p.toNat ∧ s.argNextra.toNat ≤ p.toNat - Config.stdCount)

/-- The two argument tests of CHECK, in the order of R152; they read no memory. The order is the spec's decision D8 (R209). -/
def argError (s : State) : Option BlockError :=
  if badCount s then some .invalidSampleCount else if capTooSmall s then some .bufferTooSmall else none

/-- All of CHECK for a predictor index `p`: the first test that fails is the error (R152, R209). -/
def checkError (p : Byte) (s : State) : Option BlockError :=
  match argError s with
  | some e => some e
  | none => if unserved p s then some .malformedPreamble else none

/-- The resting phases (R29). -/
def resting : Phase → Bool
  | .idle => true
  | .seed0 => false
  | .seed1 => false
  | .run => false
  | .done => true
  | .fault => true

/-- DEC is between a START and the end of its CHECK: a resting phase with a START issued (R150, R151). -/
def checking (s : State) : Bool := resting s.phase && s.startPending

/-- The condition of a NIB step: `PHASE = RUN` and `NIDX < ARG_COUNT - 2` (R150, R160). -/
def nibbleDue (s : State) : Bool := decide (s.phase = .run ∧ (s.nidx.toNat : Int) < s.argCount.toInt - 2)

/-- The condition of the FINISH step: `PHASE = RUN` and `NIDX = ARG_COUNT - 2` (R150, R169). -/
def finishDue (s : State) : Bool := decide (s.phase = .run ∧ (s.nidx.toNat : Int) = s.argCount.toInt - 2)

end Sys2Proof.Machine
end

