-- ==== Sys2Proof/Machine/Ops.lean ====
section
/-! DEFINITION. The named operations over memory and registers (spec/00_scope.md R10, spec/20_memory.md) and the raising of an error (spec/60_exceptions.md R206). -/

namespace Sys2Proof.Machine

/-- The element at an address, if the HOST has one there. -/
def Memory.read {w : Nat} : Memory w → Nat → Option (BitVec w)
  | [], _ => none
  | (k, v) :: rest, a => if a = k then some v else Memory.read rest a

/-- Put an element at an address and keep the list strictly rising. -/
def Memory.write {w : Nat} : Memory w → Nat → BitVec w → Memory w
  | [], a, x => [(a, x)]
  | (k, v) :: rest, a, x =>
    if a < k then (a, x) :: (k, v) :: rest
    else if a = k then (a, x) :: rest
    else (k, v) :: Memory.write rest a x

/-- The canonical form: addresses strictly rising. An unlisted address reads as nothing, so no entry can equal what it reads as. -/
def Memory.wf {w : Nat} : Memory w → Bool
  | [] => true
  | [_] => true
  | (a, _) :: (b, y) :: rest => decide (a < b) && Memory.wf ((b, y) :: rest)

/-- `MemRead(IN, off, 1)` (R52); `none` where the HOST supplied no such byte. -/
def inRead (s : State) (off : Nat) : Option Byte := Memory.read s.inMem (s.inBase + off)

/-- `XcRead(e)` (R10, R56); `none` where the HOST's table has no such element. -/
def xcRead (s : State) (e : Nat) : Option S16 := Memory.read s.xcMem (s.xcBase + e)

/-- Element `i` of OUT as the HOST sees it. DEC never reads OUT (R57). -/
def outRead (s : State) (i : Nat) : Option F32 := Memory.read s.outMem (s.outBase + i)

/-- `OutWrite(i, f)`: element `i` of OUT takes the value `f`, whole, and no other element changes (R57). -/
def outWrite (i : Nat) (f : F32) (s : State) : State :=
  { s with outMem := Memory.write s.outMem (s.outBase + i) f }

/-- Taking an exception: `raise <Error>` ends the decode, reports the error and zeroes the two cursors; nothing else changes (R206, R211). There is no handler, no saved context and no return operation (R212): `FAULT` is a resting phase, from which the HOST may start the next decode. The zeroes are the spec's decision D9. -/
def raise (e : BlockError) (s : State) : State :=
  { s with status := e.status, inConsumed := 0, outProduced := 0, phase := .fault, startPending := false }

/-- START (R151): the HOST writes the three argument registers and designates the three regions; no other register changes, and CHECK follows at once. -/
def start (l : Launch) (s : State) : State :=
  { s with argCount := l.count, argCap := l.cap, argNextra := l.nextra, inBase := l.inBase, xcBase := l.xcBase,
           outBase := l.outBase, startPending := true }

/-- The effect of one HOST move. -/
def hostMove (m : HostMove) (s : State) : State :=
  match m with
  | .start l => start l s
  | .writeIn a b => { s with inMem := Memory.write s.inMem a b }
  | .writeXc a v => { s with xcMem := Memory.write s.xcMem a v }
  | .writeOut a f => { s with outMem := Memory.write s.outMem a f }

/-- The register writes of LATCH (R153) with the coefficient pair already resolved. -/
def latch (p : Byte) (d c q : S16) (pair : CoefPair) (s : State) : State :=
  { s with predictor := p, delta := d, cur := c, prev := q, coefA := pair.a, coefB := pair.b, nidx := 0,
           phase := .seed0, startPending := false }

/-- The common tail of every NIB step: the sample is written, the window slides, delta is replaced (R159, R160; spec/44_nibble_codes.md `shift(X, D2)`). -/
def shift (x d2 : S16) (s : State) : State :=
  { outWrite (2 + s.nidx.toNat) (normalizeToFloat x) s with prev := s.cur, cur := x, delta := d2, nidx := s.nidx + 1 }

/-- One instruction after another, stopping where the first one stops. -/
def andThen (o : Host.Outcome State Fault Refusal) (f : State → Host.Outcome State Fault Refusal) :
    Host.Outcome State Fault Refusal :=
  match o with
  | .next s => f s
  | .fault r => .fault r
  | .refused r => .refused r

end Sys2Proof.Machine
end

