-- ==== Sys2Proof/Machine/Operands.lean ====
section
/-! DEFINITION. Operand assembly of the stream items (spec/30_encoding.md R84 to R87, spec/43_block_decoder.md R154, R158). -/

namespace Sys2Proof.Machine

/-- Standard pair `k` (R87). -/
def stdPair (k : Fin Config.stdCount) (s : State) : CoefPair := s.stdCoef.get k

/-- Extra pair `i` of XC: A at the even element, B at the odd one (R61, R83). -/
def extraPair (i : Nat) (s : State) : Option CoefPair :=
  match xcRead s (2 * i), xcRead s (2 * i + 1) with
  | some a, some b => some ⟨a, b⟩
  | _, _ => none

/-- `ResolveCoef(p)` (R154): indices 0..6 always take the standard table, whatever XC holds. -/
def resolveCoef (p : Byte) (s : State) : Option CoefPair :=
  if h : p.toNat < Config.stdCount then some (stdPair ⟨p.toNat, h⟩ s) else extraPair (p.toNat - Config.stdCount) s

/-- The unpacker: the nibble of index `n` in its pair byte, high half first (R51, R158). -/
def nibbleOf (b : Byte) (n : Nat) : Nibble := if n % 2 = 0 then highNibble b else lowNibble b

/-- The IN offset of the pair byte that holds nibble `n` (R27, R158). -/
def pairOffset (n : Nat) : Nat := Config.preBytes + n / 2

/-- Fetch the nibble code that is due: its pair byte is read from IN at the step that needs it (R71, R158). -/
def fetchNibble (s : State) : Option Nibble :=
  match inRead s (pairOffset s.nidx.toNat) with
  | some b => some (nibbleOf b s.nidx.toNat)
  | none => none

/-- `n` bytes of IN from an offset on, or `none` where one of them was not supplied. -/
def inBytes (s : State) (off : Nat) : Nat → Option (List Byte)
  | 0 => some []
  | n + 1 =>
    match inRead s off, inBytes s (off + 1) n with
    | some b, some bs => some (b :: bs)
    | _, _ => none

/-- Fetch the preamble: the seven bytes of IN at offsets 0..6, decoded (R59, R153). -/
def fetchPreamble (s : State) : Option Instr :=
  match inBytes s 0 Config.preBytes with
  | none => none
  | some bs =>
    match decode .P bs with
    | .ok (i, _) => some i
    | .error _ => none

end Sys2Proof.Machine
end

