-- ==== Sys2Proof/Machine/Nibble.lean ====
section
/-! DEFINITION. The sixteen nibble codes (spec/43_block_decoder.md R160, spec/44_nibble_codes.md R180 to R195). -/

namespace Sys2Proof.Machine

/-- The NIB step for a nibble code (R160): sample and new delta are both computed from the registers at the start of the step, with the old delta (R146, R243). It cannot fail where it is due. -/
def nibble (n : Nibble) (s : State) : Host.Outcome State Fault Refusal :=
  if nibbleDue s then
    .next (shift (computeSample n s.cur s.prev s.coefA s.coefB s.delta) (computeDelta s.adapt n s.delta) s)
  else .refused .outOfPhase

/-- `NIB.0` (R180). -/
def execNib0 (s : State) : Host.Outcome State Fault Refusal := nibble 0x0 s

/-- `NIB.1` (R181). -/
def execNib1 (s : State) : Host.Outcome State Fault Refusal := nibble 0x1 s

/-- `NIB.2` (R182). -/
def execNib2 (s : State) : Host.Outcome State Fault Refusal := nibble 0x2 s

/-- `NIB.3` (R183). -/
def execNib3 (s : State) : Host.Outcome State Fault Refusal := nibble 0x3 s

/-- `NIB.4` (R184). -/
def execNib4 (s : State) : Host.Outcome State Fault Refusal := nibble 0x4 s

/-- `NIB.5` (R185). -/
def execNib5 (s : State) : Host.Outcome State Fault Refusal := nibble 0x5 s

/-- `NIB.6` (R186). -/
def execNib6 (s : State) : Host.Outcome State Fault Refusal := nibble 0x6 s

/-- `NIB.7` (R187). -/
def execNib7 (s : State) : Host.Outcome State Fault Refusal := nibble 0x7 s

/-- `NIB.8` (R188). -/
def execNib8 (s : State) : Host.Outcome State Fault Refusal := nibble 0x8 s

/-- `NIB.9` (R189). -/
def execNib9 (s : State) : Host.Outcome State Fault Refusal := nibble 0x9 s

/-- `NIB.A` (R190). -/
def execNibA (s : State) : Host.Outcome State Fault Refusal := nibble 0xA s

/-- `NIB.B` (R191). -/
def execNibB (s : State) : Host.Outcome State Fault Refusal := nibble 0xB s

/-- `NIB.C` (R192). -/
def execNibC (s : State) : Host.Outcome State Fault Refusal := nibble 0xC s

/-- `NIB.D` (R193). -/
def execNibD (s : State) : Host.Outcome State Fault Refusal := nibble 0xD s

/-- `NIB.E` (R194). -/
def execNibE (s : State) : Host.Outcome State Fault Refusal := nibble 0xE s

/-- `NIB.F` (R195). -/
def execNibF (s : State) : Host.Outcome State Fault Refusal := nibble 0xF s

end Sys2Proof.Machine
end

