-- ==== Sys2Proof/Machine/Pair.lean ====
section
/-! DEFINITION. The pair byte (spec/30_encoding.md R90, R93). -/

namespace Sys2Proof.Machine

/-- `PAIR` (R90): `NIB.H` then `NIB.L` and nothing more. Its high half is nibble index `2j`, so it is taken at an even NIDX (R82). DEC itself takes one step per nibble (R150); Machine/Step.lean runs the two halves as two steps. -/
def execPair (h l : Nibble) (s : State) : Host.Outcome State Fault Refusal :=
  if s.nidx.toNat % 2 = 0 then andThen (nibble h s) (nibble l) else .refused .outOfPhase

end Sys2Proof.Machine
end

