-- ==== Sys2Proof/Machine/Preamble.lean ====
section
/-! DEFINITION. The eight preamble forms (spec/43_block_decoder.md R152, R153, R161 to R168). -/

namespace Sys2Proof.Machine

/-- CHECK and then LATCH for a preamble (R152, R153), in the state a START has left. An error is taken as `raise`; XC elements the HOST did not supply are refused (R237). -/
def preamble (p : Byte) (d c q : S16) (s : State) : Host.Outcome State Fault Refusal :=
  if checking s then
    match checkError p s with
    | some e => .next (raise e s)
    | none =>
      match resolveCoef p s with
      | some pair => .next (latch p d c q pair s)
      | none => .refused .extraTableTooShort
  else .refused .outOfPhase

/-- `PRE.S0` (R161): the pair is `STD_COEF[0]`. -/
def execPreS0 (d c q : S16) (s : State) : Host.Outcome State Fault Refusal := preamble 0 d c q s

/-- `PRE.S1` (R162): the pair is `STD_COEF[1]`. -/
def execPreS1 (d c q : S16) (s : State) : Host.Outcome State Fault Refusal := preamble 1 d c q s

/-- `PRE.S2` (R163): the pair is `STD_COEF[2]`. -/
def execPreS2 (d c q : S16) (s : State) : Host.Outcome State Fault Refusal := preamble 2 d c q s

/-- `PRE.S3` (R164): the pair is `STD_COEF[3]`. -/
def execPreS3 (d c q : S16) (s : State) : Host.Outcome State Fault Refusal := preamble 3 d c q s

/-- `PRE.S4` (R165): the pair is `STD_COEF[4]`. -/
def execPreS4 (d c q : S16) (s : State) : Host.Outcome State Fault Refusal := preamble 4 d c q s

/-- `PRE.S5` (R166): the pair is `STD_COEF[5]`. -/
def execPreS5 (d c q : S16) (s : State) : Host.Outcome State Fault Refusal := preamble 5 d c q s

/-- `PRE.S6` (R167): the pair is `STD_COEF[6]`. -/
def execPreS6 (d c q : S16) (s : State) : Host.Outcome State Fault Refusal := preamble 6 d c q s

/-- `PRE.X` (R168): the pair is element pair `p - 7` of XC, or MalformedPreamble where the table has none. -/
def execPreX (p : Byte) (d c q : S16) (s : State) : Host.Outcome State Fault Refusal := preamble p d c q s

end Sys2Proof.Machine
end

