-- ==== Sys2Proof/Machine/Dispatch.lean ====
section
/-! DEFINITION. What one instruction does: one arm per constructor. -/

namespace Sys2Proof.Machine

def exec (i : Instr) (s : State) : Host.Outcome State Fault Refusal :=
  match i with
  | .preS0 d c q => Sys2Proof.Machine.execPreS0 d c q s
  | .preS1 d c q => Sys2Proof.Machine.execPreS1 d c q s
  | .preS2 d c q => Sys2Proof.Machine.execPreS2 d c q s
  | .preS3 d c q => Sys2Proof.Machine.execPreS3 d c q s
  | .preS4 d c q => Sys2Proof.Machine.execPreS4 d c q s
  | .preS5 d c q => Sys2Proof.Machine.execPreS5 d c q s
  | .preS6 d c q => Sys2Proof.Machine.execPreS6 d c q s
  | .preX p d c q => Sys2Proof.Machine.execPreX p d c q s
  | .nib0 => Sys2Proof.Machine.execNib0 s
  | .nib1 => Sys2Proof.Machine.execNib1 s
  | .nib2 => Sys2Proof.Machine.execNib2 s
  | .nib3 => Sys2Proof.Machine.execNib3 s
  | .nib4 => Sys2Proof.Machine.execNib4 s
  | .nib5 => Sys2Proof.Machine.execNib5 s
  | .nib6 => Sys2Proof.Machine.execNib6 s
  | .nib7 => Sys2Proof.Machine.execNib7 s
  | .nib8 => Sys2Proof.Machine.execNib8 s
  | .nib9 => Sys2Proof.Machine.execNib9 s
  | .nibA => Sys2Proof.Machine.execNibA s
  | .nibB => Sys2Proof.Machine.execNibB s
  | .nibC => Sys2Proof.Machine.execNibC s
  | .nibD => Sys2Proof.Machine.execNibD s
  | .nibE => Sys2Proof.Machine.execNibE s
  | .nibF => Sys2Proof.Machine.execNibF s
  | .pair h l => Sys2Proof.Machine.execPair h l s

end Sys2Proof.Machine
end

