-- ==== Sys2Proof/Machine/Sequence.lean ====
section
/-! DEFINITION. The steps of a decode other than its instructions (spec/43_block_decoder.md R150): the fetch and check after a START, the two seed writes, FINISH, and the HOST's moves at rest. -/

namespace Sys2Proof.Machine

/-- SEED0 (R156). -/
def seed0 (s : State) : State := { outWrite 0 (normalizeToFloat s.prev) s with phase := .seed1 }

/-- SEED1 (R157). -/
def seed1 (s : State) : State := { outWrite 1 (normalizeToFloat s.cur) s with phase := .run }

/-- FINISH (R169). What the cursors count is the spec's decision D12. -/
def finish (s : State) : State :=
  { s with status := .ok, outProduced := s.argCount, inConsumed := BitVec.ofInt 32 (7 + (s.argCount.toInt - 2) / 2),
           phase := .done }

/-- CHECK, and LATCH where it passes (R152, R153). The argument tests come before any byte of IN is read, and an unserved predictor index is reported from byte 0 alone (R152, R236); otherwise the preamble is fetched and executed. -/
def checkStep (s : State) : Host.Outcome State Fault Refusal :=
  match argError s with
  | some e => .next (raise e s)
  | none =>
    match inRead s 0 with
    | none => .refused .inputTooShort
    | some p =>
      if unserved p s then .next (raise .malformedPreamble s)
      else
        match fetchPreamble s with
        | none => .refused .inputTooShort
        | some i => exec i s

/-- The step in `PHASE = RUN`: the next nibble code, or FINISH (R150). -/
def runStep (s : State) : Host.Outcome State Fault Refusal :=
  if nibbleDue s then
    match fetchNibble s with
    | none => .refused .inputTooShort
    | some n => exec (decodeNibble n) s
  else if finishDue s then .next (finish s)
  else .fault .noStep

/-- The step in a resting phase: CHECK when a START has been issued, else the HOST's next move; DEC has no step of its own (R29). -/
def restStep (s : State) : Host.Outcome State Fault Refusal :=
  if s.startPending then checkStep s
  else
    match s.host with
    | [] => .fault .resting
    | m :: rest => .next (hostMove m { s with host := rest })

/-- Store bytes in the HOST's IN storage from a position on. -/
def storeIn : List Byte → Nat → State → State
  | [], _, s => s
  | b :: bs, a, s => storeIn bs (a + 1) { s with inMem := Memory.write s.inMem a b }

/-- Give the HOST's extra table an element where it has none. -/
def supplyXc (e : Nat) (s : State) : State :=
  match xcRead s e with
  | some _ => s
  | none => { s with xcMem := Memory.write s.xcMem (s.xcBase + e) 0 }

/-- Make a preamble's bytes the ones the next step checks, latches and executes: a START for the seeds alone with room for them is pending in a resting phase, and a predictor index of 7 or more finds its pair in the extra table. -/
def placePreamble (bs : List Byte) (s : State) : State :=
  let p := (bs.headD 0).toNat
  let loaded := storeIn bs s.inBase s
  let started : State :=
    { loaded with phase := if resting s.phase then s.phase else .idle, startPending := true, argCount := 2, argCap := 2 }
  if p < Config.stdCount then started
  else
    let i := p - Config.stdCount
    supplyXc (2 * i + 1) (supplyXc (2 * i) { started with argNextra := BitVec.ofNat 32 (i + 1) })

/-- Make a pair byte the one the next step takes its high nibble from: both seeds are out and two nibbles are due. -/
def placePair (b : Byte) (s : State) : State :=
  let loaded := storeIn [b] (s.inBase + Config.preBytes) s
  { loaded with phase := .run, startPending := false, argCount := 4, argCap := 4, nidx := 0 }

/-- Place a table word (its format and bytes as in Decode.lean) where the next step fetches. A nibble code goes in the high half, which an even NIDX selects. -/
def placeTableWord (nbits w : Nat) (s : State) : State :=
  match tableFormat nbits w with
  | .P => placePreamble (tableBytes nbits w) s
  | .N => placePair (BitVec.ofNat 4 w ++ 0#4) s
  | .B => placePair (BitVec.ofNat 8 w) s

end Sys2Proof.Machine
end

