-- ==== Sys2Proof/Machine/Step.lean ====
section
/-! DEFINITION. One step of the machine, by PHASE (spec/10_state.md R28, spec/43_block_decoder.md R150). -/

namespace Sys2Proof.Machine

/-- The next step of DEC, or, in a resting phase with no START issued, the next move of the HOST. -/
def step (s : State) : Host.Outcome State Fault Refusal :=
  match s.phase with
  | .idle => restStep s
  | .seed0 => .next (seed0 s)
  | .seed1 => .next (seed1 s)
  | .run => runStep s
  | .done => restStep s
  | .fault => restStep s

/-- `s` with a table word placed so that the very next step fetches and runs it (notes/assumptions/16.md). -/
def State.withFetchWord (s : State) (nbits w : Nat) : State := placeTableWord nbits w s

end Sys2Proof.Machine
end

