-- ==== Sys2Proof/Machine/DecodeBlock.lean ====
section
/-! DEFINITION. The whole decode as one function of its inputs (spec/43_block_decoder.md R170), written apart from the step machine so that claims can hold the two against each other. -/

namespace Sys2Proof.Machine

/-- The fold of R170 over the nibbles: `k` nibbles are left, the next is nibble `n`. -/
def decodeNibbles (adapt : Vector S16 Config.adaptCount) (pair : CoefPair) (inp : Nat → Byte) :
    Nat → Nat → S16 → S16 → S16 → List F32
  | 0, _, _, _, _ => []
  | k + 1, n, delta, cur, prev =>
    let b := inp (7 + n / 2)
    let nib : Nibble := if n % 2 = 0 then b.extractLsb' 4 4 else b.extractLsb' 0 4
    let x := computeSample nib cur prev pair.a pair.b delta
    normalizeToFloat x :: decodeNibbles adapt pair inp k (n + 1) (computeDelta adapt nib delta) x cur

/-- `DecodeBlock(S, CAP, NX, in, xc)` (R170): the error, or the samples, the bytes consumed and the elements produced. -/
def decodeBlock (std : Vector CoefPair Config.stdCount) (adapt : Vector S16 Config.adaptCount) (count : Int)
    (cap nextra : Nat) (inp : Nat → Byte) (xc : Nat → S16) : Except BlockError (List F32 × Nat × Nat) :=
  if count < 2 ∨ count % 2 = 1 then .error .invalidSampleCount
  else if (cap : Int) < count then .error .bufferTooSmall
  else
    let p := (inp 0).toNat
    if 7 ≤ p ∧ nextra ≤ p - 7 then .error .malformedPreamble
    else
      let pair : CoefPair := if h : p < 7 then std.get ⟨p, h⟩ else ⟨xc (2 * (p - 7)), xc (2 * (p - 7) + 1)⟩
      let delta := inp 2 ++ inp 1
      let cur := inp 4 ++ inp 3
      let prev := inp 6 ++ inp 5
      .ok (normalizeToFloat prev :: normalizeToFloat cur ::
            decodeNibbles adapt pair inp (count - 2).toNat 0 delta cur prev,
          7 + ((count - 2) / 2).toNat, count.toNat)

end Sys2Proof.Machine
end

