-- ==== Sys2Proof/Safety.lean ====
section
/-! DEFINITION. What a safe run is, in the terms the claims use: the HOST's duties (spec/70_reset_and_hazards.md R236 to R240), the machine's invariant, and the value a binary32 pattern stands for. -/

namespace Sys2Proof.Machine

/-- The arguments raise neither InvalidSampleCount nor BufferTooSmall (R202, R203). -/
abbrev ArgsValid (s : State) : Prop :=
  2 ≤ s.argCount.toInt ∧ s.argCount.toInt % 2 = 0 ∧ s.argCount.toInt ≤ (s.argCap.toNat : Int)

/-- How many nibbles the block has: `ARG_COUNT - 2` (R80). -/
def nibbleCount (s : State) : Nat := (s.argCount.toInt - 2).toNat

/-- How many bytes of IN the block has: `7 + (ARG_COUNT - 2) / 2` (R60). -/
def blockBytes (s : State) : Nat := 7 + ((s.argCount.toInt - 2) / 2).toNat

/-- A duty of the HOST (R236): IN holds all the bytes that the sample count implies. -/
abbrev InputSupplied (s : State) : Prop := ∀ off < blockBytes s, (inRead s off).isSome = true

/-- A duty of the HOST (R237): XC holds `2 * ARG_NEXTRA` elements, those a predictor index can reach. -/
abbrev ExtraSupplied (s : State) : Prop := ∀ e < min (2 * s.argNextra.toNat) 498, (xcRead s e).isSome = true

/-- A predictor index has a coefficient pair (the converse of R204). -/
abbrev Served (p : Byte) (s : State) : Prop := p.toNat < 7 ∨ p.toNat - 7 < s.argNextra.toNat

/-- DEC is inside a decode: the phases that are not resting (R29). -/
abbrev Active (s : State) : Prop := s.phase = .seed0 ∨ s.phase = .seed1 ∨ s.phase = .run

/-- A START has been issued in a resting phase and CHECK follows at once (R150). -/
abbrev Started (s : State) : Prop := (s.phase = .idle ∨ s.phase = .done ∨ s.phase = .fault) ∧ s.startPending = true

/-- DEC rests and no START has been issued: only the HOST can move (R29). -/
abbrev AtRest (s : State) : Prop := (s.phase = .idle ∨ s.phase = .done ∨ s.phase = .fault) ∧ s.startPending = false

/-- A NIB step is due (R150, R160). -/
abbrev NibbleDue (s : State) : Prop := s.phase = .run ∧ (s.nidx.toNat : Int) < s.argCount.toInt - 2

/-- Every memory is in its canonical form. -/
abbrev MemoriesWf (s : State) : Prop :=
  Memory.wf s.inMem = true ∧ Memory.wf s.xcMem = true ∧ Memory.wf s.outMem = true

/-- What holds of every reachable state, whatever values the two tables hold (that no step writes them is a statement of its own). -/
structure Inv (s : State) : Prop where
  /-- memories stay canonical -/
  memories : MemoriesWf s
  /-- a decode runs only after a passing CHECK, NIDX is at most ARG_COUNT - 2 (R27), and COEFA, COEFB are the pair of PREDICTOR (R24, R154) -/
  active : Active s → s.startPending = false ∧ ArgsValid s ∧ (s.nidx.toNat : Int) ≤ s.argCount.toInt - 2 ∧
    Served s.predictor s ∧ resolveCoef s.predictor s = some ⟨s.coefA, s.coefB⟩
  /-- no nibble is decoded before the seeds are out (R150) -/
  seeds : s.phase = .seed0 ∨ s.phase = .seed1 → s.nidx = 0
  /-- after the first NIB step of a block DELTA is at least 16 (R22) -/
  floor : s.phase = .run → 0 < s.nidx.toNat → 16 ≤ s.delta.toInt
  /-- DONE reports OK, and until the next START the cursors are those of R169 -/
  done : s.phase = .done → s.status = .ok ∧ (s.startPending = false → ArgsValid s ∧
    s.outProduced = s.argCount ∧ (s.inConsumed.toNat : Int) = 7 + (s.argCount.toInt - 2) / 2)
  /-- FAULT reports an error and zero cursors (R206) -/
  fault : s.phase = .fault → s.status ≠ .ok ∧ s.inConsumed = 0 ∧ s.outProduced = 0

/-- The value of a binary32 pattern that is zero or normal (R118): `(-1)^sign * 2^(exp-127) * (1 + frac / 2^23)`. -/
def f32Value (f : F32) : ℚ :=
  if f.extractLsb' 0 31 = 0 then 0
  else (if f.msb then -1 else 1) * (2 : ℚ) ^ (((f.extractLsb' 23 8).toNat : ℤ) - 127) *
    (1 + ((f.extractLsb' 0 23).toNat : ℚ) / 2 ^ 23)

/-- A binary32 pattern that is zero or normal: no subnormal, infinity or NaN (R119 (c)). -/
abbrev f32Normal (f : F32) : Prop :=
  f.extractLsb' 0 31 = 0 ∨ (0 < (f.extractLsb' 23 8).toNat ∧ (f.extractLsb' 23 8).toNat < 255)

end Sys2Proof.Machine
end

