-- ==== Sys2Proof/Certificates/Slice0/Obligations.lean ====
section
/-! DEFINITION. The statements for the provers. Each docstring names the rules of spec/ it formalises; where a clause rests on a decision the spec marks as its own, or on a choice of this model, it says so and names the decision or the log entry. -/

namespace Sys2Proof.Claims

open Sys2Proof.Machine

/-- What one step, meaning or run answers. -/
abbrev Answer := Host.Outcome State Fault Refusal

/-- LATCH's register writes, written out from R153: predictor index, delta, current and previous sample, coefficient pair, NIDX and PHASE; the model's own START flag is taken down. -/
def latched (p : Byte) (d c q a b : S16) (s : State) : State :=
  { s with predictor := p, delta := d, cur := c, prev := q, coefA := a, coefB := b, nidx := 0#32, phase := .seed0,
           startPending := false }

/-- `raise <Error>`, written out from R206. -/
def raised (code : Status) (s : State) : State :=
  { s with status := code, inConsumed := 0#32, outProduced := 0#32, phase := .fault, startPending := false }

/-- The common tail of the nibble codes, written out from R160: `shift(X, D2)` of spec/44_nibble_codes.md. -/
def shifted (x d2 : S16) (s : State) : State :=
  { s with outMem := Memory.write s.outMem (s.outBase + (2 + s.nidx.toNat)) (normalizeToFloat x),
           prev := s.cur, cur := x, delta := d2, nidx := s.nidx + 1#32 }

/-- `pred` of spec/44_nibble_codes.md: the prediction from the registers at the start of the step. -/
def pred (s : State) : Int := tdiv (s.cur.toInt * s.coefA.toInt + s.prev.toInt * s.coefB.toInt) 256

/-- The result of a nibble code with signed operand `se` and multiplier `m` (R180 to R195). -/
def coded (se m : Int) (s : State) : State :=
  shifted (saturate16 (pred s + s.delta.toInt * se)) (clampDelta (tdiv (m * s.delta.toInt) 256)) s

/-- The result of a nibble `n` (R160): sample and new delta both from the registers at the start of the step. -/
def stepped (n : Nibble) (s : State) : State :=
  shifted (computeSample n s.cur s.prev s.coefA s.coefB s.delta) (computeDelta s.adapt n s.delta) s

/-- The three memories read the same at every address. -/
def SameMemories (s t : State) : Prop :=
  ∀ a, Memory.read t.inMem a = Memory.read s.inMem a ∧ Memory.read t.xcMem a = Memory.read s.xcMem a ∧
    Memory.read t.outMem a = Memory.read s.outMem a

/-- Argument registers, tables, designated regions and pending HOST moves are the same. -/
def SameSetting (s t : State) : Prop :=
  t.argCount = s.argCount ∧ t.argCap = s.argCap ∧ t.argNextra = s.argNextra ∧ t.stdCoef = s.stdCoef ∧
    t.adapt = s.adapt ∧ t.inBase = s.inBase ∧ t.xcBase = s.xcBase ∧ t.outBase = s.outBase ∧ t.host = s.host

/-- The result registers are the same. -/
def SameResults (s t : State) : Prop :=
  t.status = s.status ∧ t.inConsumed = s.inConsumed ∧ t.outProduced = s.outProduced

/-- The working registers, PREDICTOR and NIDX are the same. -/
def SameWorking (s t : State) : Prop :=
  t.delta = s.delta ∧ t.cur = s.cur ∧ t.prev = s.prev ∧ t.coefA = s.coefA ∧ t.coefB = s.coefB ∧
    t.predictor = s.predictor ∧ t.nidx = s.nidx

/-- The bytes of IN as a function, and the elements of XC. -/
def inFun (s : State) (off : Nat) : Byte := (inRead s off).getD 0#8
def xcFun (s : State) (e : Nat) : S16 := (xcRead s e).getD 0#16

/-- R170's function at a state's arguments and memories. -/
def blockOf (s : State) : Except BlockError (List F32 × Nat × Nat) :=
  decodeBlock s.stdCoef s.adapt s.argCount.toInt s.argCap.toNat s.argNextra.toNat (inFun s) (xcFun s)

/-- Everything the HOST owes at a START (R236, R237), in a state in which CHECK follows at once and no error is due. -/
abbrev Launchable (s : State) : Prop :=
  Started s ∧ ArgsValid s ∧ InputSupplied s ∧ ExtraSupplied s ∧ Served (inFun s 0) s

end Sys2Proof.Claims

open Sys2Proof Sys2Proof.Machine Sys2Proof.Claims

/-! ### Reset and the step function -/

/-- R231: what reset leaves. PHASE, STATUS, the cursors, NIDX and the tables are the spec's (decision D14); that the unspecified registers hold zero, that memory lists nothing and that no HOST move is pending are the model's choice (notes/assumptions/1.md, 4.md, 6.md). -/
def Obligations.ResetLeavesIdleDecoder : Prop :=
  State.reset.phase = .idle ∧ State.reset.status = .ok ∧ State.reset.inConsumed = 0#32 ∧
    State.reset.outProduced = 0#32 ∧ State.reset.nidx = 0#32 ∧ State.reset.stdCoef = Config.stdCoef ∧
    State.reset.adapt = Config.adapt ∧ State.reset.delta = 0#16 ∧ State.reset.cur = 0#16 ∧ State.reset.prev = 0#16 ∧
    State.reset.coefA = 0#16 ∧ State.reset.coefB = 0#16 ∧ State.reset.predictor = 0#8 ∧ State.reset.argCount = 0#32 ∧
    State.reset.argCap = 0#32 ∧ State.reset.argNextra = 0#32 ∧ State.reset.startPending = false ∧
    State.reset.inMem = [] ∧ State.reset.xcMem = [] ∧ State.reset.outMem = [] ∧ State.reset.host = []

/-- R158: while a nibble is due, the step reads the pair byte at offset `7 + NIDX div 2`, takes its high half at an even NIDX and its low half at an odd one, and executes the nibble code it decodes to; a missing byte is refused (R221, U5; notes/assumptions/6.md). -/
def Obligations.RunStepExecutesDecodedNibble : Prop :=
  ∀ s : State, NibbleDue s →
    (∀ b, inRead s (7 + s.nidx.toNat / 2) = some b → s.nidx.toNat % 2 = 0 →
      step s = exec (decodeNibble (b.extractLsb' 4 4)) s) ∧
    (∀ b, inRead s (7 + s.nidx.toNat / 2) = some b → s.nidx.toNat % 2 = 1 →
      step s = exec (decodeNibble (b.extractLsb' 0 4)) s) ∧
    (inRead s (7 + s.nidx.toNat / 2) = none → step s = .refused .inputTooShort)

/-- R152, R153: after a START whose arguments are valid, the step executes the instruction that the seven bytes at offsets 0..6 decode to, whatever the predictor index. -/
def Obligations.StartedStepExecutesDecodedPreamble : Prop :=
  ∀ (s : State) (b0 b1 b2 b3 b4 b5 b6 : Byte), Started s → ArgsValid s →
    inRead s 0 = some b0 → inRead s 1 = some b1 → inRead s 2 = some b2 → inRead s 3 = some b3 →
    inRead s 4 = some b4 → inRead s 5 = some b5 → inRead s 6 = some b6 →
    decode .P [b0, b1, b2, b3, b4, b5, b6] = .ok (decodePreamble b0 b1 b2 b3 b4 b5 b6, []) ∧
      step s = exec (decodePreamble b0 b1 b2 b3 b4 b5 b6) s

/-! ### Encoding -/

/-- Words written out from R81, R82, R88, R89 and R95 decode to the instructions they stand for: the preambles of vectors V-E1, V-E2 (here with a pair byte after it), V-E3 and V-E5, the pair bytes of V-E8 and V-E9, and the nibble codes 0x0, 0x7, 0x8 and 0xF of R89. -/
def Obligations.DecodingOfSpecWords : Prop :=
  decode .P [0x00, 0x10, 0x00, 0x00, 0x00, 0x00, 0x00] = .ok (.preS0 16 0 0, []) ∧
  decode .P [0x01, 0x20, 0x00, 0x64, 0x00, 0x32, 0x00, 0x37] = .ok (.preS1 32 100 50, [0x37]) ∧
  decode .P [0x03, 0xFB, 0xFF, 0x00, 0x80, 0xFF, 0x7F] = .ok (.preS3 (-5) (-32768) 32767, []) ∧
  decode .P [0x08, 0x64, 0x00, 0x30, 0xF8, 0xDC, 0x05] = .ok (.preX 8 100 (-2000) 1500, []) ∧
  decode .N [0x00] = .ok (.nib0, []) ∧ decode .N [0x07] = .ok (.nib7, []) ∧ decode .N [0x08] = .ok (.nib8, []) ∧
  decode .N [0x0F] = .ok (.nibF, []) ∧
  decode .B [0x37] = .ok (.pair 0x3 0x7, []) ∧ decode .B [0xF8] = .ok (.pair 0xF 0x8, [])

/-- R81, R82, R88, R89, R95: decoding an encoded instruction, whatever follows it, gives it back with every operand, for every well-formed instruction. -/
def Obligations.DecodeOfEncodeIsIdentity : Prop :=
  ∀ (i : Instr) (rest : List Byte), i.wf = true → decode i.format (encode i ++ rest) = .ok (i, rest)

/-- R88 to R91: bytes have one reading. Whatever decodes is well formed, of the format asked for, and encodes back to the bytes it was read from; and seven bytes always decode as a preamble, one byte always as a pair. -/
def Obligations.EncodeOfDecodeIsIdentity : Prop :=
  (∀ (f : Format) (bs rest : List Byte) (i : Instr), decode f bs = .ok (i, rest) →
    i.wf = true ∧ i.format = f ∧ encode i ++ rest = bs) ∧
  (∀ bs : List Byte, 7 ≤ bs.length → ∃ i rest, decode .P bs = .ok (i, rest)) ∧
  (∀ bs : List Byte, 1 ≤ bs.length → ∃ i rest, decode .B bs = .ok (i, rest))

/-! ### Arithmetic -/

/-- R110: `tdiv` is floor for a non-negative dividend and minus the floor of the negated dividend for a negative one, so it truncates toward zero; by 256 it is the arithmetic shift of `a + 255` for negative `a`, and it differs from the plain shift exactly at the negative non-multiples of 256. -/
def Obligations.DivisionTruncatesTowardZero : Prop :=
  (∀ a b : Int, 0 < b → (0 ≤ a → tdiv a b = a / b) ∧ (a < 0 → tdiv a b = -((-a) / b)) ∧
    |tdiv a b * b| ≤ |a| ∧ |a - tdiv a b * b| < b) ∧
  (∀ a : Int, tdiv a 256 = (a + if a < 0 then 255 else 0) >>> (8 : Nat) ∧
    (tdiv a 256 ≠ a >>> (8 : Nat) ↔ a < 0 ∧ a % 256 ≠ 0))

/-- R115 (the instance of R114 that the block uses): `Saturate16` returns a value in s16 unchanged, clamps above to 32767 and below to -32768, is monotone and idempotent, and is what every prediction computation ends in. -/
def Obligations.SaturationClampsToSixteenBits : Prop :=
  (∀ v : Int, (v > 32767 → (saturate16 v).toInt = 32767) ∧ (v < -32768 → (saturate16 v).toInt = -32768) ∧
    (-32768 ≤ v → v ≤ 32767 → (saturate16 v).toInt = v) ∧ saturate16 (saturate16 v).toInt = saturate16 v) ∧
  (∀ v w : Int, v ≤ w → (saturate16 v).toInt ≤ (saturate16 w).toInt) ∧
  (∀ (n : Nibble) (cur prev a b delta : S16), computeSample n cur prev a b delta =
    saturate16 (prediction cur prev a b + delta.toInt * (signExtend4 n).toInt))

/-- R130 with R112: the decoded sample as one integer formula: the nibble read signed, the two products added first and divided once, truncating, the delta term added after, and the sum clamped. That the sum is exact, also at 2^31, is the spec's decision D6. -/
def Obligations.SampleIsClampedPrediction : Prop :=
  ∀ (n : Nibble) (cur prev a b delta : S16),
    (computeSample n cur prev a b delta).toInt =
      max (-32768) (min 32767 (Int.tdiv (cur.toInt * a.toInt + prev.toInt * b.toInt) 256 +
        delta.toInt * (if n.toNat ≤ 7 then (n.toNat : Int) else (n.toNat : Int) - 16)))

/-- R140, R141, R143 with R116: the new delta as one integer formula, for any table; so it is in 16..32767 (R145). The ceiling is the spec's decision D5. -/
def Obligations.AdaptedDeltaIsClampedQuotient : Prop :=
  ∀ (t : Vector S16 16) (n : Nibble) (d : S16),
    (computeDelta t n d).toInt = max 16 (min 32767 (Int.tdiv ((t.get n.toFin).toInt * d.toInt) 256)) ∧
    16 ≤ (computeDelta t n d).toInt ∧ (computeDelta t n d).toInt ≤ 32767

/-- R145, the source's property: applying `ComputeDelta` with nibble 0 (table value 230) again and again never gives a result below 16, whatever the starting delta; and from every starting delta 69 applications reach 16, which then stays (the count is the spec's derived sequence). -/
def Obligations.ShrinkingDeltaSettlesAtFloor : Prop :=
  ∀ (t : Vector S16 16) (d : S16), t.get 0 = 230#16 →
    (∀ k, 1 ≤ k → 16 ≤ ((computeDelta t 0#4)^[k] d).toInt) ∧
    (∀ k, 69 ≤ k → (computeDelta t 0#4)^[k] d = 16#16)

/-- R119 (a), R117: a negative sample is exactly `s / 32768`, zero is +0.0, and 32767 is exactly 1. -/
def Obligations.NormalizationIsExactBelowZero : Prop :=
  (∀ s : S16, s.toInt < 0 → f32Normal (normalizeToFloat s) ∧ f32Value (normalizeToFloat s) = (s.toInt : ℚ) / 32768) ∧
  normalizeToFloat 0 = 0#32 ∧ f32Value (normalizeToFloat 32767) = 1

/-- R117, R118: a positive sample is the binary32 nearest `s / 32767`: no zero or normal pattern is nearer, and one equally near leaves the chosen one with an even fraction. The format and the rounding are the spec's decision D4. -/
def Obligations.NormalizationRoundsToNearestEven : Prop :=
  ∀ s : S16, 0 < s.toInt → f32Normal (normalizeToFloat s) ∧
    ∀ g : F32, f32Normal g →
      |f32Value (normalizeToFloat s) - (s.toInt : ℚ) / 32767| ≤ |f32Value g - (s.toInt : ℚ) / 32767| ∧
      (|f32Value g - (s.toInt : ℚ) / 32767| = |f32Value (normalizeToFloat s) - (s.toInt : ℚ) / 32767| →
        g ≠ normalizeToFloat s → (normalizeToFloat s).getLsbD 0 = false)

/-- R119 (c), (d), (e): every result is zero or normal and lies in [-1, 1], and the function is strictly increasing, hence injective. -/
def Obligations.NormalizationIsStrictlyIncreasing : Prop :=
  (∀ s : S16, f32Normal (normalizeToFloat s) ∧ -1 ≤ f32Value (normalizeToFloat s) ∧ f32Value (normalizeToFloat s) ≤ 1) ∧
  (∀ s r : S16, s.toInt < r.toInt → f32Value (normalizeToFloat s) < f32Value (normalizeToFloat r))

/-! ### Preamble forms -/

/-- R161: `PRE.S0` after a START with valid arguments latches the preamble with the pair (256, 0), PREDICTOR 0 and NIDX 0; with that pair the prediction is CUR exactly, so each sample is the last one plus DELTA times the signed nibble, saturated. -/
def Obligations.PreS0LatchesUnitPair : Prop :=
  ∀ (s : State) (d c q : S16), Started s → ArgsValid s → s.stdCoef.get 0 = ⟨256#16, 0#16⟩ →
    exec (.preS0 d c q) s = .next (latched 0 d c q 256 0 s) ∧
    (∀ x y : S16, prediction x y 256 0 = x.toInt) ∧
    (∀ (n : Nibble) (x y e : S16), computeSample n x y 256 0 e =
      saturate16 (x.toInt + e.toInt * (if n.toNat ≤ 7 then (n.toNat : Int) else (n.toNat : Int) - 16)))

/-- R153, R154: each standard form takes its pair from the standard table, whatever the table holds and whatever XC holds, and writes all of LATCH's registers; delta and seeds are taken as they are. -/
def Obligations.StandardPreamblesTakeTablePair : Prop :=
  ∀ (s : State) (d c q : S16), Started s → ArgsValid s →
    exec (.preS0 d c q) s = .next (latched 0 d c q (s.stdCoef.get 0).a (s.stdCoef.get 0).b s) ∧
    exec (.preS1 d c q) s = .next (latched 1 d c q (s.stdCoef.get 1).a (s.stdCoef.get 1).b s) ∧
    exec (.preS2 d c q) s = .next (latched 2 d c q (s.stdCoef.get 2).a (s.stdCoef.get 2).b s) ∧
    exec (.preS3 d c q) s = .next (latched 3 d c q (s.stdCoef.get 3).a (s.stdCoef.get 3).b s) ∧
    exec (.preS4 d c q) s = .next (latched 4 d c q (s.stdCoef.get 4).a (s.stdCoef.get 4).b s) ∧
    exec (.preS5 d c q) s = .next (latched 5 d c q (s.stdCoef.get 5).a (s.stdCoef.get 5).b s) ∧
    exec (.preS6 d c q) s = .next (latched 6 d c q (s.stdCoef.get 6).a (s.stdCoef.get 6).b s)

/-- R162 to R167: with the default table (general knowledge, decision D20; notes/assumptions/2.md) the pairs latched are (512,-256), (0,0), (192,64), (240,0), (460,-208), (392,-232), and the predictions they give: `2*CUR - PREV`, 0, and the truncating quotients of the others. -/
def Obligations.DefaultPairsGiveTheirPredictions : Prop :=
  ∀ (s : State) (d c q : S16), Started s → ArgsValid s → s.stdCoef = Config.stdCoef →
    exec (.preS1 d c q) s = .next (latched 1 d c q 512 (-256) s) ∧
    exec (.preS2 d c q) s = .next (latched 2 d c q 0 0 s) ∧
    exec (.preS3 d c q) s = .next (latched 3 d c q 192 64 s) ∧
    exec (.preS4 d c q) s = .next (latched 4 d c q 240 0 s) ∧
    exec (.preS5 d c q) s = .next (latched 5 d c q 460 (-208) s) ∧
    exec (.preS6 d c q) s = .next (latched 6 d c q 392 (-232) s) ∧
    (∀ x y : S16, prediction x y 512 (-256) = 2 * x.toInt - y.toInt ∧ prediction x y 0 0 = 0 ∧
      prediction x y 192 64 = Int.tdiv (192 * x.toInt + 64 * y.toInt) 256 ∧
      prediction x y 240 0 = Int.tdiv (240 * x.toInt) 256 ∧
      prediction x y 460 (-208) = Int.tdiv (460 * x.toInt - 208 * y.toInt) 256 ∧
      prediction x y 392 (-232) = Int.tdiv (392 * x.toInt - 232 * y.toInt) 256)

/-- R168: `PRE.X` with `i = p - 7` raises MalformedPreamble and latches nothing when `i >= ARG_NEXTRA`; otherwise it latches with the pair at XC elements `2i` and `2i + 1`, any s16 values; with the source's pair (100, 50) and the seeds 7 and 3 the first prediction is 3. -/
def Obligations.PreXLatchesExtraPairOrRaises : Prop :=
  ∀ (s : State) (p : Byte) (d c q : S16), 7 ≤ p.toNat → Started s → ArgsValid s →
    (s.argNextra.toNat ≤ p.toNat - 7 → exec (.preX p d c q) s = .next (raised .malformedPreamble s)) ∧
    (p.toNat - 7 < s.argNextra.toNat → ∀ a b : S16, xcRead s (2 * (p.toNat - 7)) = some a →
      xcRead s (2 * (p.toNat - 7) + 1) = some b → exec (.preX p d c q) s = .next (latched p d c q a b s)) ∧
    prediction 7 3 100 50 = 3

/-- R237, U10: where ARG_NEXTRA overstates the extra table the decode has no meaning: `PRE.X` is refused when an element of its pair does not exist (notes/assumptions/6.md). -/
def Obligations.PreXRefusesMissingExtraPair : Prop :=
  ∀ (s : State) (p : Byte) (d c q : S16), 7 ≤ p.toNat → Started s → ArgsValid s → p.toNat - 7 < s.argNextra.toNat →
    (xcRead s (2 * (p.toNat - 7)) = none ∨ xcRead s (2 * (p.toNat - 7) + 1) = none) →
    exec (.preX p d c q) s = .refused .extraTableTooShort

/-- The frame of the eight preamble forms (R151, R153, R206): memory reads the same everywhere; arguments, tables, regions and HOST moves are unchanged; a latch leaves the result registers as they were, a raised error leaves the working registers, PREDICTOR and NIDX as they were. -/
def Obligations.PreambleFormsLeaveMemoryAlone : Prop :=
  ∀ (i : Instr) (s t : State), i.format = .P → exec i s = .next t →
    SameMemories s t ∧ SameSetting s t ∧
    ((t.phase = .seed0 ∧ SameResults s t) ∨ (t.phase = .fault ∧ SameWorking s t))

/-- R153 with R50, R84, R85 and R154: the step after a START that passes CHECK loads PREDICTOR from byte 0 and DELTA, CUR, PREV from the little-endian fields at offsets 1, 3, 5 as they are, resolves the coefficient pair (standard table below 7, XC from 7 on), clears NIDX and goes to SEED0; the 16-bit fields are two's complement. That one step does both CHECK and LATCH is the model's choice (notes/assumptions/3.md). -/
def Obligations.LatchLoadsLittleEndianFields : Prop :=
  (∀ s : State, Launchable s → ∃ pair : CoefPair,
    (∀ h : (inFun s 0).toNat < 7, pair = s.stdCoef.get ⟨(inFun s 0).toNat, h⟩) ∧
    (7 ≤ (inFun s 0).toNat → pair = ⟨xcFun s (2 * ((inFun s 0).toNat - 7)), xcFun s (2 * ((inFun s 0).toNat - 7) + 1)⟩) ∧
    step s = .next (latched (inFun s 0) (inFun s 2 ++ inFun s 1) (inFun s 4 ++ inFun s 3) (inFun s 6 ++ inFun s 5)
      pair.a pair.b s)) ∧
  (∀ lo hi : Byte, (hi ++ lo : S16).toInt =
    if lo.toNat + 256 * hi.toNat < 32768 then (lo.toNat : Int) + 256 * hi.toNat else (lo.toNat : Int) + 256 * hi.toNat - 65536)

/-! ### Nibble codes -/

/-- R160: a nibble code of any value, with any table: completion and the whole next state; and DEC's step does the same with the nibble that R158 takes from the pair byte. The sample uses the old delta and the old window. -/
def Obligations.NibbleCodeShiftsWindow : Prop :=
  ∀ (n : Nibble) (s : State), NibbleDue s →
    exec (decodeNibble n) s = .next (stepped n s) ∧
    (∀ b, inRead s (7 + s.nidx.toNat / 2) = some b →
      step s = .next (stepped (if s.nidx.toNat % 2 = 0 then b.extractLsb' 4 4 else b.extractLsb' 0 4) s))

/-- R180: `NIB.0`, with its table value 230 (the source's): the sample is the saturated prediction itself; delta shrinks to the floor and never reaches the ceiling; a sample is still written and the window still shifts. -/
def Obligations.Nib0EmitsPredictionItself : Prop :=
  ∀ s : State, NibbleDue s → s.adapt.get 0 = 230#16 →
    exec .nib0 s = .next (shifted (saturate16 (pred s)) (clampDelta (tdiv (230 * s.delta.toInt) 256)) s) ∧
    (clampDelta (tdiv (230 * s.delta.toInt) 256)).toInt ≤ max 16 s.delta.toInt ∧
    tdiv (230 * s.delta.toInt) 256 ≤ 32767

/-- R181 to R187: the codes 1 to 7 with the default table (general knowledge, decision D20; notes/assumptions/2.md): operand `n` and the multiplier of the code. -/
def Obligations.PositiveNibbleCodes : Prop :=
  ∀ s : State, NibbleDue s → s.adapt = Config.adapt →
    exec .nib1 s = .next (coded 1 230 s) ∧ exec .nib2 s = .next (coded 2 230 s) ∧
    exec .nib3 s = .next (coded 3 230 s) ∧ exec .nib4 s = .next (coded 4 307 s) ∧
    exec .nib5 s = .next (coded 5 409 s) ∧ exec .nib6 s = .next (coded 6 512 s) ∧
    exec .nib7 s = .next (coded 7 614 s)

/-- R188 to R195: the codes 8 to F with the default table (general knowledge, decision D20; notes/assumptions/2.md): operand `n - 16` and the multiplier of the code. -/
def Obligations.NegativeNibbleCodes : Prop :=
  ∀ s : State, NibbleDue s → s.adapt = Config.adapt →
    exec .nib8 s = .next (coded (-8) 768 s) ∧ exec .nib9 s = .next (coded (-7) 614 s) ∧
    exec .nibA s = .next (coded (-6) 512 s) ∧ exec .nibB s = .next (coded (-5) 409 s) ∧
    exec .nibC s = .next (coded (-4) 307 s) ∧ exec .nibD s = .next (coded (-3) 230 s) ∧
    exec .nibE s = .next (coded (-2) 230 s) ∧ exec .nibF s = .next (coded (-1) 230 s)

/-- The frame of the sixteen nibble codes (R57, R160): the one element of OUT at index `2 + NIDX` takes the normalised new sample and every other element, all of IN and all of XC read as before; coefficients, PREDICTOR, PHASE, arguments, tables, regions and results are unchanged. -/
def Obligations.NibbleCodesWriteOneElement : Prop :=
  ∀ (i : Instr) (s t : State), i.format = .N → exec i s = .next t →
    Memory.read t.outMem (s.outBase + (2 + s.nidx.toNat)) = some (normalizeToFloat t.cur) ∧
    (∀ a, a ≠ s.outBase + (2 + s.nidx.toNat) → Memory.read t.outMem a = Memory.read s.outMem a) ∧
    (∀ a, Memory.read t.inMem a = Memory.read s.inMem a ∧ Memory.read t.xcMem a = Memory.read s.xcMem a) ∧
    SameSetting s t ∧ SameResults s t ∧ t.coefA = s.coefA ∧ t.coefB = s.coefB ∧ t.predictor = s.predictor ∧
    t.phase = s.phase ∧ t.startPending = s.startPending ∧ t.prev = s.cur

/-- R90, R82: a pair byte at an even NIDX with two nibbles due is its high nibble then its low nibble, and it is what DEC's two steps do when that byte stands in IN. -/
def Obligations.PairIsHighThenLowNibble : Prop :=
  ∀ (h l : Nibble) (s : State), s.phase = .run → s.nidx.toNat % 2 = 0 → (s.nidx.toNat : Int) + 1 < s.argCount.toInt - 2 →
    exec (.pair h l) s = .next (stepped l (stepped h s)) ∧
    (inRead s (7 + s.nidx.toNat / 2) = some (h ++ l) → Sys2Proof.core.run 2 s = .next (stepped l (stepped h s)))

/-- The frame of the pair byte (R57, R90): exactly the two elements of OUT at `2 + NIDX` and `3 + NIDX` change; everything else that a nibble code leaves alone is left alone. -/
def Obligations.PairWritesTwoElements : Prop :=
  ∀ (h l : Nibble) (s t : State), exec (.pair h l) s = .next t →
    Memory.read t.outMem (s.outBase + (2 + s.nidx.toNat)) = some (normalizeToFloat t.prev) ∧
    Memory.read t.outMem (s.outBase + (3 + s.nidx.toNat)) = some (normalizeToFloat t.cur) ∧
    (∀ a, a ≠ s.outBase + (2 + s.nidx.toNat) → a ≠ s.outBase + (3 + s.nidx.toNat) →
      Memory.read t.outMem a = Memory.read s.outMem a) ∧
    (∀ a, Memory.read t.inMem a = Memory.read s.inMem a ∧ Memory.read t.xcMem a = Memory.read s.xcMem a) ∧
    SameSetting s t ∧ SameResults s t ∧ t.coefA = s.coefA ∧ t.coefB = s.coefB ∧ t.predictor = s.predictor ∧
    t.phase = s.phase ∧ t.startPending = s.startPending ∧ t.nidx.toNat = s.nidx.toNat + 2

/-- Where R150 takes no step for an instruction, its meaning is refused by name (the model's choice, notes/assumptions/9.md): a preamble when no START is being checked, a nibble code when none is due, a pair byte at an odd NIDX or when not both of its nibbles are due. -/
def Obligations.InstructionsOutOfPhaseAreRefused : Prop :=
  ∀ (i : Instr) (s : State),
    (i.format = .P → ¬ Started s → exec i s = .refused .outOfPhase) ∧
    (i.format = .N → ¬ NibbleDue s → exec i s = .refused .outOfPhase) ∧
    (i.format = .B → ¬ (s.phase = .run ∧ s.nidx.toNat % 2 = 0 ∧ (s.nidx.toNat : Int) + 1 < s.argCount.toInt - 2) →
      exec i s = .refused .outOfPhase)

/-! ### The other steps of a decode -/

/-- R156: SEED0 writes the normalised PREV to `OUT[0]` and moves on to SEED1, and changes no other state. -/
def Obligations.Seed0EmitsPreviousSample : Prop :=
  ∀ s : State, s.phase = .seed0 →
    step s = .next { s with outMem := Memory.write s.outMem (s.outBase + 0) (normalizeToFloat s.prev), phase := .seed1 }

/-- R157: SEED1 writes the normalised CUR to `OUT[1]` and moves on to RUN; and for any valid preamble, whatever the nibble data, the predictor index, the coefficients and the initial delta, the first two outputs are the normalised previous sample and then the normalised current sample, and no other element of OUT is written by then. That this takes three steps of the model after START rests on the model's choice of CHECK with LATCH as one step (notes/assumptions/3.md). -/
def Obligations.SeedsComeOutPreviousFirst : Prop :=
  (∀ s : State, s.phase = .seed1 →
    step s = .next { s with outMem := Memory.write s.outMem (s.outBase + 1) (normalizeToFloat s.cur), phase := .run }) ∧
  (∀ s : State, Launchable s → ∃ t, Sys2Proof.core.run 3 s = .next t ∧ t.phase = .run ∧
    outRead t 0 = some (normalizeToFloat (inFun s 6 ++ inFun s 5)) ∧
    outRead t 1 = some (normalizeToFloat (inFun s 4 ++ inFun s 3)) ∧
    ∀ a, a ≠ s.outBase → a ≠ s.outBase + 1 → Memory.read t.outMem a = Memory.read s.outMem a)

/-- R169: FINISH reports OK and the cursors and rests in DONE, and changes nothing else. What the consumed cursor counts is the spec's decision D12. For a full block (R171) it is the container's block size. -/
def Obligations.FinishReportsCursors : Prop :=
  ∀ s : State, s.phase = .run → (s.nidx.toNat : Int) = s.argCount.toInt - 2 →
    step s = .next { s with status := .ok, outProduced := s.argCount,
                            inConsumed := BitVec.ofInt 32 (7 + (s.argCount.toInt - 2) / 2), phase := .done } ∧
    (∀ align : Nat, 7 ≤ align → s.argCount.toInt = 2 * ((align : Int) - 7) + 2 →
      (BitVec.ofInt 32 (7 + (s.argCount.toInt - 2) / 2)).toNat = align)

/-- R152, R202, R203, R204, R206, R209: the step after a START raises InvalidSampleCount for a count that is odd or below 2, else BufferTooSmall for a capacity below the count, else, from byte 0 of IN alone, MalformedPreamble for a predictor index with no pair; `raise` changes STATUS, the two cursors and PHASE only. The order is the spec's decision D8 and the zero cursors D9. -/
def Obligations.CheckRaisesFirstFailingTest : Prop :=
  ∀ s : State, Started s →
    (s.argCount.toInt < 2 ∨ s.argCount.toInt % 2 = 1 → step s = .next (raised .invalidSampleCount s)) ∧
    (2 ≤ s.argCount.toInt → s.argCount.toInt % 2 = 0 → (s.argCap.toNat : Int) < s.argCount.toInt →
      step s = .next (raised .bufferTooSmall s)) ∧
    (ArgsValid s → ∀ p, inRead s 0 = some p → 7 ≤ p.toNat → s.argNextra.toNat ≤ p.toNat - 7 →
      step s = .next (raised .malformedPreamble s))

/-- R236, U5: with valid arguments, a byte of the preamble that the HOST did not supply refuses the decode (notes/assumptions/6.md). -/
def Obligations.MissingPreambleByteIsRefused : Prop :=
  ∀ s : State, Started s → ArgsValid s →
    (inRead s 0 = none → step s = .refused .inputTooShort) ∧
    (∀ p, inRead s 0 = some p → Served p s → (∃ off < 7, inRead s off = none) → step s = .refused .inputTooShort)

/-- R65: all errors are detected before any output is written: a step after a START writes no memory, whatever it answers, and no later step of the decode can raise an error. So in a decode that ends in FAULT, OUT is what it was at the start. -/
def Obligations.ErrorsComeBeforeOutput : Prop :=
  (∀ s t : State, Started s → step s = .next t → SameMemories s t) ∧
  (∀ s t : State, Active s → step s = .next t → t.phase ≠ .fault)

/-- R151: at rest, a START of the HOST writes the three argument registers, designates the three regions and makes CHECK follow at once; no other register changes. That it is a step of its own, taken from a list of HOST moves, is the model's choice (notes/assumptions/3.md, 4.md). -/
def Obligations.StartWritesArgumentsOnly : Prop :=
  ∀ (s : State) (l : Launch) (rest : List HostMove), AtRest s → s.host = .start l :: rest →
    step s = .next { s with argCount := l.count, argCap := l.cap, argNextra := l.nextra, inBase := l.inBase,
                            xcBase := l.xcBase, outBase := l.outBase, startPending := true, host := rest }

/-- R29: "In a resting phase DEC has no step of its own": what moves is the HOST. The model's choice (notes/assumptions/8.md): with no START issued and no HOST move left the machine stops. The model's choice too (notes/assumptions/4.md): a HOST store is a step of the machine, taken from the list of pending moves in State; it changes the stored element of its own memory and nothing else but that list. -/
def Obligations.OnlyTheHostMovesAtRest : Prop :=
  ∀ s : State, AtRest s →
    (s.host = [] → step s = .fault .resting) ∧
    (∀ a b rest, s.host = .writeIn a b :: rest →
      step s = .next { s with inMem := Memory.write s.inMem a b, host := rest }) ∧
    (∀ a v rest, s.host = .writeXc a v :: rest →
      step s = .next { s with xcMem := Memory.write s.xcMem a v, host := rest }) ∧
    (∀ a f rest, s.host = .writeOut a f :: rest →
      step s = .next { s with outMem := Memory.write s.outMem a f, host := rest })

/-! ### Rules of the whole machine -/

/-- R29, R222, R238: between a START and the next resting phase the HOST has no move: the step's answer does not depend on the HOST's pending moves and leaves them as they are. -/
def Obligations.HostHasNoMoveDuringDecode : Prop :=
  ∀ (s : State) (h : List HostMove), Active s ∨ Started s →
    (∀ t, step s = .next t → t.host = s.host ∧ step { s with host := h } = .next { t with host := h }) ∧
    (∀ r, step s = .fault r → step { s with host := h } = .fault r) ∧
    (∀ r, step s = .refused r → step { s with host := h } = .refused r)

/-- R37, R38: no step, the HOST's included, writes the two tables. -/
def Obligations.TablesAreNeverWritten : Prop :=
  ∀ s t : State, step s = .next t → t.stdCoef = s.stdCoef ∧ t.adapt = s.adapt

/-- R57, R71: DEC writes nothing in HOST memory but OUT, and leaves the argument registers and the designated regions alone. -/
def Obligations.DecoderNeverWritesItsInputs : Prop :=
  ∀ s t : State, Active s ∨ Started s → step s = .next t →
    (∀ a, Memory.read t.inMem a = Memory.read s.inMem a ∧ Memory.read t.xcMem a = Memory.read s.xcMem a) ∧
    SameSetting s t

/-- R24: from the LATCH step to the end of the block COEFA, COEFB and PREDICTOR are constant. -/
def Obligations.CoefficientsAreConstantInBlock : Prop :=
  ∀ s t : State, Active s → step s = .next t →
    t.coefA = s.coefA ∧ t.coefB = s.coefB ∧ t.predictor = s.predictor

/-- R27 (decision D23): NIDX is set to 0 by LATCH, goes up by exactly 1 with every NIB step, never past ARG_COUNT - 2 and so without wrapping, and is never otherwise written. -/
def Obligations.NibbleIndexCountsNibbles : Prop :=
  ∀ s t : State, Inv s → step s = .next t →
    (NibbleDue s → t.nidx.toNat = s.nidx.toNat + 1 ∧ (t.nidx.toNat : Int) ≤ t.argCount.toInt - 2) ∧
    (¬ NibbleDue s → t.phase = .seed0 → t.nidx = 0#32) ∧
    (¬ NibbleDue s → t.phase ≠ .seed0 → t.nidx = s.nidx)

/-- R33 to R36: the result registers are written only by the step that ends a decode: FINISH, which reports OK, or a raised error; every other step keeps them. -/
def Obligations.ResultsAreWrittenOnlyAtTheEnd : Prop :=
  ∀ s t : State, step s = .next t → ¬ SameResults s t →
    (s.phase = .run ∧ t.phase = .done ∧ t.status = .ok) ∨ (Started s ∧ t.phase = .fault ∧ t.status ≠ .ok)

/-- R57, R62, R64 (decision D24): inside a decode the elements of OUT are written one a step in ascending order: index 0 in SEED0, 1 in SEED1, `2 + NIDX` in a NIB step, each below ARG_COUNT and so below ARG_CAP; FINISH writes none. -/
def Obligations.OutputIsWrittenInOrder : Prop :=
  ∀ s t : State, Inv s → Active s → step s = .next t → ∃ w : Option Nat,
    w = (if s.phase = .seed0 then some 0 else if s.phase = .seed1 then some 1
      else if (s.nidx.toNat : Int) < s.argCount.toInt - 2 then some (2 + s.nidx.toNat) else none) ∧
    (∀ i, w = some i → (i : Int) < s.argCount.toInt ∧ i < s.argCap.toNat ∧
      outRead t i = some (normalizeToFloat (if s.phase = .seed0 then s.prev else t.cur))) ∧
    (∀ a, (∀ i, w = some i → a ≠ s.outBase + i) → Memory.read t.outMem a = Memory.read s.outMem a)

/-- R22: after every NIB step DELTA is in 16..32767 (the ceiling by decision D5), while the LATCH of a standard form may leave any s16. -/
def Obligations.DeltaStaysInRangeAfterNibble : Prop :=
  (∀ s t : State, NibbleDue s → step s = .next t → 16 ≤ t.delta.toInt ∧ t.delta.toInt ≤ 32767) ∧
  (∀ (s : State) (d c q : S16), Started s → ArgsValid s → ∃ t, exec (.preS0 d c q) s = .next t ∧ t.delta = d)

/-- The invariant holds right after reset. -/
def Obligations.ResetSatisfiesInvariant : Prop := Inv State.reset

/-- From every state that meets the invariant, every step, the HOST's moves included, leads to one that meets it. -/
def Obligations.EveryStepKeepsInvariant : Prop :=
  ∀ s t : State, Inv s → step s = .next t → Inv t

/-- R123, R150, R160: from a state that meets the invariant, a step never lacks a successor for want of a rule: it is a next state, or DEC rests (R29) with no HOST move left, or the HOST has not met a duty (R221, R236, R237: too short an input or extra table). The stops named in the last two cases are the model's choice: the fault `resting` (notes/assumptions/8.md), the refusals `inputTooShort` and `extraTableTooShort` (notes/assumptions/6.md). -/
def Obligations.InvariantStatesAreNeverStuck : Prop :=
  ∀ s : State, Inv s → (∃ t, step s = .next t) ∨ (AtRest s ∧ s.host = [] ∧ step s = .fault .resting) ∨
    ((Active s ∨ Started s) ∧ ¬ (InputSupplied s ∧ ExtraSupplied s) ∧
      (step s = .refused .inputTooShort ∨ step s = .refused .extraTableTooShort))

/-! ### Whole decodes -/

/-- R170: a decode started with valid arguments, a served predictor index and the HOST's duties met reaches DONE with exactly what the function `DecodeBlock` gives: the samples in `OUT[0 .. ARG_COUNT-1]`, every other element of OUT as before, IN and XC as before, STATUS OK and the two cursors. The run takes `ARG_COUNT + 2` steps of the model after START: R150 names `ARG_COUNT + 3`, and that CHECK with LATCH is one step is the model's choice (notes/assumptions/3.md). -/
def Obligations.DecodeRunComputesDecodeBlock : Prop :=
  ∀ s : State, Launchable s → ∃ (t : State) (out : List F32) (consumed produced : Nat),
    blockOf s = .ok (out, consumed, produced) ∧ (out.length : Int) = s.argCount.toInt ∧
    Sys2Proof.core.run (nibbleCount s + 4) s = .next t ∧
    t.phase = .done ∧ t.status = .ok ∧ t.inConsumed.toNat = consumed ∧ t.outProduced.toNat = produced ∧
    (∀ i (hi : i < out.length), outRead t i = some out[i]) ∧
    (∀ a, (a < s.outBase ∨ s.outBase + out.length ≤ a) → Memory.read t.outMem a = Memory.read s.outMem a) ∧
    (∀ a, Memory.read t.inMem a = Memory.read s.inMem a ∧ Memory.read t.xcMem a = Memory.read s.xcMem a)

/-- R170, R206: a decode for which `DecodeBlock` gives an error ends in one step in FAULT with that error's STATUS, zero cursors and every memory as it was; only byte 0 of IN need be there, and that only when the arguments are valid. -/
def Obligations.FailingDecodeReportsDecodeBlockError : Prop :=
  ∀ (s : State) (e : BlockError), Started s → (ArgsValid s → (inRead s 0).isSome = true) → blockOf s = .error e →
    ∃ t, step s = .next t ∧ t.phase = .fault ∧ t.status = e.status ∧ t.inConsumed = 0#32 ∧ t.outProduced = 0#32 ∧
      SameMemories s t ∧ SameWorking s t ∧ SameSetting s t

/-- R42, R41, R212, for decodes that succeed (a decode that fails is FailingDecodeReportsDecodeBlockError's): two of them, started with the same arguments, tables, bytes of IN and elements of XC, end alike, whatever any other register, OUT and the resting phase held before: both reach DONE with equal results and equal `OUT[0 .. ARG_COUNT-1]`. The length of the runs, `ARG_COUNT + 2` steps of the model after START, rests on the model's choice of CHECK with LATCH as one step (notes/assumptions/3.md). -/
def Obligations.DecodeDependsOnItsInputsAlone : Prop :=
  ∀ s r : State, Launchable s → Started r → r.argCount = s.argCount → r.argCap = s.argCap → r.argNextra = s.argNextra →
    r.stdCoef = s.stdCoef → r.adapt = s.adapt → (∀ off < blockBytes s, inRead r off = inRead s off) →
    (∀ e < 2 * s.argNextra.toNat, xcRead r e = xcRead s e) →
    ∃ t u : State, Sys2Proof.core.run (nibbleCount s + 4) s = .next t ∧
      Sys2Proof.core.run (nibbleCount s + 4) r = .next u ∧ t.phase = .done ∧ u.phase = .done ∧ SameResults t u ∧
      ∀ i : Nat, (i : Int) < s.argCount.toInt → outRead t i = outRead u i ∧ (outRead t i).isSome = true

/-- R172: decoding a smaller even count from the same inputs gives the first elements of the full output. -/
def Obligations.SmallerCountDecodesPrefix : Prop :=
  ∀ (std : Vector CoefPair 7) (adapt : Vector S16 16) (small full : Int) (cap nx : Nat) (inp : Nat → Byte)
    (xc : Nat → S16) (out : List F32) (consumed produced : Nat),
    2 ≤ small → small % 2 = 0 → small ≤ full →
    decodeBlock std adapt full cap nx inp xc = .ok (out, consumed, produced) →
    decodeBlock std adapt small cap nx inp xc = .ok (out.take small.toNat, 7 + ((small - 2) / 2).toNat, small.toNat)

/-- R172: sample `n` depends on nibbles `0..n`, the preamble and the pair alone: two inputs that agree on the preamble and on the nibbles up to `n` give the same `OUT[0 .. 2+n]`, whatever nibbles follow. -/
def Obligations.LaterNibblesChangeNoEarlierSample : Prop :=
  ∀ (std : Vector CoefPair 7) (adapt : Vector S16 16) (count : Int) (cap nx n : Nat) (inp inp' : Nat → Byte)
    (xc : Nat → S16) (out out' : List F32) (c c' p p' : Nat),
    (∀ off < 7, inp' off = inp off) → (∀ m ≤ n, nibbleOf (inp' (7 + m / 2)) m = nibbleOf (inp (7 + m / 2)) m) →
    decodeBlock std adapt count cap nx inp xc = .ok (out, c, p) →
    decodeBlock std adapt count cap nx inp' xc = .ok (out', c', p') →
    ∀ i ≤ 2 + n, out'[i]? = out[i]?

/-- R245: from any point inside a decode, with the inputs supplied, DONE is reached in exactly the steps that are left: the seeds still to write, one per nibble left, and FINISH. -/
def Obligations.DecodeFinishesInCountedSteps : Prop :=
  ∀ s : State, Inv s → Active s → InputSupplied s →
    ∃ t, Sys2Proof.core.run ((if s.phase = .seed0 then 2 else if s.phase = .seed1 then 1 else 0) +
        (nibbleCount s - s.nidx.toNat) + 1) s = .next t ∧
      t.phase = .done ∧ t.status = .ok ∧ t.outProduced = s.argCount

/-- R57, R220, R246: however far a decode has run, with no HOST move pending, only the elements `OUT[0 .. ARG_COUNT-1]` of its own region can differ from before; so the output of a block decoded earlier elsewhere stays as it was. -/
def Obligations.DecodeStaysInItsOutputRegion : Prop :=
  ∀ (k : Nat) (s t : State), Inv s → Active s ∨ Started s → s.host = [] → Sys2Proof.core.run k s = .next t →
    (∀ a, (a < s.outBase ∨ (s.outBase : Int) + s.argCount.toInt ≤ a) → Memory.read t.outMem a = Memory.read s.outMem a) ∧
    (∀ a, Memory.read t.inMem a = Memory.read s.inMem a ∧ Memory.read t.xcMem a = Memory.read s.xcMem a)
end

