-- ==== Sys2Proof/Laws/Arith.lean ====
section
/-! SUPPORT. Small lemmas of the arithmetic helpers: how each reads as an integer. -/

namespace Sys2Proof.Machine

/-- An integer in the s16 range survives narrowing. -/
theorem toInt_ofInt16 {v : Int} (h1 : -32768 ≤ v) (h2 : v ≤ 32767) : (BitVec.ofInt 16 v).toInt = v := by
  rw [BitVec.toInt_ofInt, Int.bmod_def]
  simp only [Nat.reducePow]
  omega

theorem saturate_eq_max_min {lo hi v : Int} (h : lo ≤ hi) : saturate lo hi v = max lo (min hi v) := by
  unfold saturate
  split
  · omega
  · split <;> omega

theorem saturate16_toInt (v : Int) : (saturate16 v).toInt = saturate (-32768) 32767 v := by
  unfold saturate16
  apply toInt_ofInt16 <;> rw [saturate_eq_max_min (by decide)] <;> omega

theorem clampDelta_toInt (t : Int) : (clampDelta t).toInt = saturate 16 32767 t := by
  unfold clampDelta Config.deltaMin Config.deltaMax
  apply toInt_ofInt16 <;> rw [saturate_eq_max_min (by decide)] <;> omega

theorem toInt_s16_bounds (x : S16) : -32768 ≤ x.toInt ∧ x.toInt ≤ 32767 := by
  have h1 := BitVec.le_toInt x
  have h2 := BitVec.toInt_lt (x := x)
  simp only [Nat.add_one_sub_one, Int.reducePow] at h1 h2
  omega

end Sys2Proof.Machine
end

