-- ==== Sys2Proof/Laws/Memory.lean ====
section
/-! SUPPORT. The laws of the memory operations: reading after writing, and that a write keeps the canonical form. -/

namespace Sys2Proof.Machine

theorem Memory.read_write_same {w : Nat} (m : Memory w) (a : Nat) (x : BitVec w) :
    Memory.read (Memory.write m a x) a = some x := by
  induction m with
  | nil => simp [Memory.write, Memory.read]
  | cons e rest ih =>
    obtain ⟨k, v⟩ := e
    unfold Memory.write
    split
    · simp [Memory.read]
    · split
      · simp [Memory.read]
      · simp [Memory.read, *]

theorem Memory.read_write_other {w : Nat} (m : Memory w) {a b : Nat} (x : BitVec w) (h : b ≠ a) :
    Memory.read (Memory.write m a x) b = Memory.read m b := by
  induction m with
  | nil => simp [Memory.write, Memory.read, h]
  | cons e rest ih =>
    obtain ⟨k, v⟩ := e
    unfold Memory.write
    split
    · simp [Memory.read, h]
    · split
      · subst k; simp [Memory.read, h]
      · simp [Memory.read, ih]

/-- Every address of a list is at least `lo`; with it the canonical form is an induction on the list. -/
theorem Memory.wf_cons {w : Nat} (k : Nat) (v : BitVec w) (m : Memory w) :
    Memory.wf ((k, v) :: m) = true ↔ (∀ e ∈ m.head?, k < e.1) ∧ Memory.wf m = true := by
  cases m with
  | nil => simp [Memory.wf]
  | cons e rest => obtain ⟨b, y⟩ := e; simp [Memory.wf]

theorem Memory.wf_write {w : Nat} (m : Memory w) (a : Nat) (x : BitVec w) (h : Memory.wf m = true) :
    Memory.wf (Memory.write m a x) = true := by
  induction m with
  | nil => rfl
  | cons e rest ih =>
    obtain ⟨k, v⟩ := e
    rw [Memory.wf_cons] at h
    unfold Memory.write
    split
    · rename_i hlt
      rw [Memory.wf_cons, Memory.wf_cons]
      exact ⟨by simpa using hlt, h⟩
    · split
      · rename_i heq; subst heq
        exact (Memory.wf_cons _ _ _).2 h
      · rename_i hge hne
        refine (Memory.wf_cons _ _ _).2 ⟨?_, ih h.2⟩
        cases rest with
        | nil => simp [Memory.write]; omega
        | cons e2 r2 =>
          obtain ⟨k2, v2⟩ := e2
          have hk : k < k2 := by simpa using h.1
          unfold Memory.write
          split
          · simp; omega
          · split <;> simp <;> omega

end Sys2Proof.Machine
end

