-- ==== Sys2Proof/Laws/State.lean ====
section
/-! SUPPORT. What each named update does to each field of State, so that no later proof unfolds a record update. -/

namespace Sys2Proof.Machine

@[simp] theorem outWrite_delta (i : Nat) (f : F32) (s : State) : (outWrite i f s).delta = s.delta := rfl
@[simp] theorem outWrite_cur (i : Nat) (f : F32) (s : State) : (outWrite i f s).cur = s.cur := rfl
@[simp] theorem outWrite_prev (i : Nat) (f : F32) (s : State) : (outWrite i f s).prev = s.prev := rfl
@[simp] theorem outWrite_coefA (i : Nat) (f : F32) (s : State) : (outWrite i f s).coefA = s.coefA := rfl
@[simp] theorem outWrite_coefB (i : Nat) (f : F32) (s : State) : (outWrite i f s).coefB = s.coefB := rfl
@[simp] theorem outWrite_predictor (i : Nat) (f : F32) (s : State) : (outWrite i f s).predictor = s.predictor := rfl
@[simp] theorem outWrite_nidx (i : Nat) (f : F32) (s : State) : (outWrite i f s).nidx = s.nidx := rfl
@[simp] theorem outWrite_phase (i : Nat) (f : F32) (s : State) : (outWrite i f s).phase = s.phase := rfl
@[simp] theorem outWrite_startPending (i : Nat) (f : F32) (s : State) : (outWrite i f s).startPending = s.startPending := rfl
@[simp] theorem outWrite_argCount (i : Nat) (f : F32) (s : State) : (outWrite i f s).argCount = s.argCount := rfl
@[simp] theorem outWrite_argCap (i : Nat) (f : F32) (s : State) : (outWrite i f s).argCap = s.argCap := rfl
@[simp] theorem outWrite_argNextra (i : Nat) (f : F32) (s : State) : (outWrite i f s).argNextra = s.argNextra := rfl
@[simp] theorem outWrite_status (i : Nat) (f : F32) (s : State) : (outWrite i f s).status = s.status := rfl
@[simp] theorem outWrite_inConsumed (i : Nat) (f : F32) (s : State) : (outWrite i f s).inConsumed = s.inConsumed := rfl
@[simp] theorem outWrite_outProduced (i : Nat) (f : F32) (s : State) : (outWrite i f s).outProduced = s.outProduced := rfl
@[simp] theorem outWrite_stdCoef (i : Nat) (f : F32) (s : State) : (outWrite i f s).stdCoef = s.stdCoef := rfl
@[simp] theorem outWrite_adapt (i : Nat) (f : F32) (s : State) : (outWrite i f s).adapt = s.adapt := rfl
@[simp] theorem outWrite_inMem (i : Nat) (f : F32) (s : State) : (outWrite i f s).inMem = s.inMem := rfl
@[simp] theorem outWrite_xcMem (i : Nat) (f : F32) (s : State) : (outWrite i f s).xcMem = s.xcMem := rfl
@[simp] theorem outWrite_outMem (i : Nat) (f : F32) (s : State) : (outWrite i f s).outMem = Memory.write s.outMem (s.outBase + i) f := rfl
@[simp] theorem outWrite_inBase (i : Nat) (f : F32) (s : State) : (outWrite i f s).inBase = s.inBase := rfl
@[simp] theorem outWrite_xcBase (i : Nat) (f : F32) (s : State) : (outWrite i f s).xcBase = s.xcBase := rfl
@[simp] theorem outWrite_outBase (i : Nat) (f : F32) (s : State) : (outWrite i f s).outBase = s.outBase := rfl
@[simp] theorem outWrite_host (i : Nat) (f : F32) (s : State) : (outWrite i f s).host = s.host := rfl

@[simp] theorem raise_delta (e : BlockError) (s : State) : (raise e s).delta = s.delta := rfl
@[simp] theorem raise_cur (e : BlockError) (s : State) : (raise e s).cur = s.cur := rfl
@[simp] theorem raise_prev (e : BlockError) (s : State) : (raise e s).prev = s.prev := rfl
@[simp] theorem raise_coefA (e : BlockError) (s : State) : (raise e s).coefA = s.coefA := rfl
@[simp] theorem raise_coefB (e : BlockError) (s : State) : (raise e s).coefB = s.coefB := rfl
@[simp] theorem raise_predictor (e : BlockError) (s : State) : (raise e s).predictor = s.predictor := rfl
@[simp] theorem raise_nidx (e : BlockError) (s : State) : (raise e s).nidx = s.nidx := rfl
@[simp] theorem raise_phase (e : BlockError) (s : State) : (raise e s).phase = .fault := rfl
@[simp] theorem raise_startPending (e : BlockError) (s : State) : (raise e s).startPending = false := rfl
@[simp] theorem raise_argCount (e : BlockError) (s : State) : (raise e s).argCount = s.argCount := rfl
@[simp] theorem raise_argCap (e : BlockError) (s : State) : (raise e s).argCap = s.argCap := rfl
@[simp] theorem raise_argNextra (e : BlockError) (s : State) : (raise e s).argNextra = s.argNextra := rfl
@[simp] theorem raise_status (e : BlockError) (s : State) : (raise e s).status = e.status := rfl
@[simp] theorem raise_inConsumed (e : BlockError) (s : State) : (raise e s).inConsumed = 0 := rfl
@[simp] theorem raise_outProduced (e : BlockError) (s : State) : (raise e s).outProduced = 0 := rfl
@[simp] theorem raise_stdCoef (e : BlockError) (s : State) : (raise e s).stdCoef = s.stdCoef := rfl
@[simp] theorem raise_adapt (e : BlockError) (s : State) : (raise e s).adapt = s.adapt := rfl
@[simp] theorem raise_inMem (e : BlockError) (s : State) : (raise e s).inMem = s.inMem := rfl
@[simp] theorem raise_xcMem (e : BlockError) (s : State) : (raise e s).xcMem = s.xcMem := rfl
@[simp] theorem raise_outMem (e : BlockError) (s : State) : (raise e s).outMem = s.outMem := rfl
@[simp] theorem raise_inBase (e : BlockError) (s : State) : (raise e s).inBase = s.inBase := rfl
@[simp] theorem raise_xcBase (e : BlockError) (s : State) : (raise e s).xcBase = s.xcBase := rfl
@[simp] theorem raise_outBase (e : BlockError) (s : State) : (raise e s).outBase = s.outBase := rfl
@[simp] theorem raise_host (e : BlockError) (s : State) : (raise e s).host = s.host := rfl

@[simp] theorem start_delta (l : Launch) (s : State) : (start l s).delta = s.delta := rfl
@[simp] theorem start_cur (l : Launch) (s : State) : (start l s).cur = s.cur := rfl
@[simp] theorem start_prev (l : Launch) (s : State) : (start l s).prev = s.prev := rfl
@[simp] theorem start_coefA (l : Launch) (s : State) : (start l s).coefA = s.coefA := rfl
@[simp] theorem start_coefB (l : Launch) (s : State) : (start l s).coefB = s.coefB := rfl
@[simp] theorem start_predictor (l : Launch) (s : State) : (start l s).predictor = s.predictor := rfl
@[simp] theorem start_nidx (l : Launch) (s : State) : (start l s).nidx = s.nidx := rfl
@[simp] theorem start_phase (l : Launch) (s : State) : (start l s).phase = s.phase := rfl
@[simp] theorem start_startPending (l : Launch) (s : State) : (start l s).startPending = true := rfl
@[simp] theorem start_argCount (l : Launch) (s : State) : (start l s).argCount = l.count := rfl
@[simp] theorem start_argCap (l : Launch) (s : State) : (start l s).argCap = l.cap := rfl
@[simp] theorem start_argNextra (l : Launch) (s : State) : (start l s).argNextra = l.nextra := rfl
@[simp] theorem start_status (l : Launch) (s : State) : (start l s).status = s.status := rfl
@[simp] theorem start_inConsumed (l : Launch) (s : State) : (start l s).inConsumed = s.inConsumed := rfl
@[simp] theorem start_outProduced (l : Launch) (s : State) : (start l s).outProduced = s.outProduced := rfl
@[simp] theorem start_stdCoef (l : Launch) (s : State) : (start l s).stdCoef = s.stdCoef := rfl
@[simp] theorem start_adapt (l : Launch) (s : State) : (start l s).adapt = s.adapt := rfl
@[simp] theorem start_inMem (l : Launch) (s : State) : (start l s).inMem = s.inMem := rfl
@[simp] theorem start_xcMem (l : Launch) (s : State) : (start l s).xcMem = s.xcMem := rfl
@[simp] theorem start_outMem (l : Launch) (s : State) : (start l s).outMem = s.outMem := rfl
@[simp] theorem start_inBase (l : Launch) (s : State) : (start l s).inBase = l.inBase := rfl
@[simp] theorem start_xcBase (l : Launch) (s : State) : (start l s).xcBase = l.xcBase := rfl
@[simp] theorem start_outBase (l : Launch) (s : State) : (start l s).outBase = l.outBase := rfl
@[simp] theorem start_host (l : Launch) (s : State) : (start l s).host = s.host := rfl

@[simp] theorem latch_delta (p : Byte) (d c q : S16) (pair : CoefPair) (s : State) : (latch p d c q pair s).delta = d := rfl
@[simp] theorem latch_cur (p : Byte) (d c q : S16) (pair : CoefPair) (s : State) : (latch p d c q pair s).cur = c := rfl
@[simp] theorem latch_prev (p : Byte) (d c q : S16) (pair : CoefPair) (s : State) : (latch p d c q pair s).prev = q := rfl
@[simp] theorem latch_coefA (p : Byte) (d c q : S16) (pair : CoefPair) (s : State) : (latch p d c q pair s).coefA = pair.a := rfl
@[simp] theorem latch_coefB (p : Byte) (d c q : S16) (pair : CoefPair) (s : State) : (latch p d c q pair s).coefB = pair.b := rfl
@[simp] theorem latch_predictor (p : Byte) (d c q : S16) (pair : CoefPair) (s : State) : (latch p d c q pair s).predictor = p := rfl
@[simp] theorem latch_nidx (p : Byte) (d c q : S16) (pair : CoefPair) (s : State) : (latch p d c q pair s).nidx = 0 := rfl
@[simp] theorem latch_phase (p : Byte) (d c q : S16) (pair : CoefPair) (s : State) : (latch p d c q pair s).phase = .seed0 := rfl
@[simp] theorem latch_startPending (p : Byte) (d c q : S16) (pair : CoefPair) (s : State) : (latch p d c q pair s).startPending = false := rfl
@[simp] theorem latch_argCount (p : Byte) (d c q : S16) (pair : CoefPair) (s : State) : (latch p d c q pair s).argCount = s.argCount := rfl
@[simp] theorem latch_argCap (p : Byte) (d c q : S16) (pair : CoefPair) (s : State) : (latch p d c q pair s).argCap = s.argCap := rfl
@[simp] theorem latch_argNextra (p : Byte) (d c q : S16) (pair : CoefPair) (s : State) : (latch p d c q pair s).argNextra = s.argNextra := rfl
@[simp] theorem latch_status (p : Byte) (d c q : S16) (pair : CoefPair) (s : State) : (latch p d c q pair s).status = s.status := rfl
@[simp] theorem latch_inConsumed (p : Byte) (d c q : S16) (pair : CoefPair) (s : State) : (latch p d c q pair s).inConsumed = s.inConsumed := rfl
@[simp] theorem latch_outProduced (p : Byte) (d c q : S16) (pair : CoefPair) (s : State) : (latch p d c q pair s).outProduced = s.outProduced := rfl
@[simp] theorem latch_stdCoef (p : Byte) (d c q : S16) (pair : CoefPair) (s : State) : (latch p d c q pair s).stdCoef = s.stdCoef := rfl
@[simp] theorem latch_adapt (p : Byte) (d c q : S16) (pair : CoefPair) (s : State) : (latch p d c q pair s).adapt = s.adapt := rfl
@[simp] theorem latch_inMem (p : Byte) (d c q : S16) (pair : CoefPair) (s : State) : (latch p d c q pair s).inMem = s.inMem := rfl
@[simp] theorem latch_xcMem (p : Byte) (d c q : S16) (pair : CoefPair) (s : State) : (latch p d c q pair s).xcMem = s.xcMem := rfl
@[simp] theorem latch_outMem (p : Byte) (d c q : S16) (pair : CoefPair) (s : State) : (latch p d c q pair s).outMem = s.outMem := rfl
@[simp] theorem latch_inBase (p : Byte) (d c q : S16) (pair : CoefPair) (s : State) : (latch p d c q pair s).inBase = s.inBase := rfl
@[simp] theorem latch_xcBase (p : Byte) (d c q : S16) (pair : CoefPair) (s : State) : (latch p d c q pair s).xcBase = s.xcBase := rfl
@[simp] theorem latch_outBase (p : Byte) (d c q : S16) (pair : CoefPair) (s : State) : (latch p d c q pair s).outBase = s.outBase := rfl
@[simp] theorem latch_host (p : Byte) (d c q : S16) (pair : CoefPair) (s : State) : (latch p d c q pair s).host = s.host := rfl

@[simp] theorem shift_delta (x d2 : S16) (s : State) : (shift x d2 s).delta = d2 := rfl
@[simp] theorem shift_cur (x d2 : S16) (s : State) : (shift x d2 s).cur = x := rfl
@[simp] theorem shift_prev (x d2 : S16) (s : State) : (shift x d2 s).prev = s.cur := rfl
@[simp] theorem shift_coefA (x d2 : S16) (s : State) : (shift x d2 s).coefA = s.coefA := rfl
@[simp] theorem shift_coefB (x d2 : S16) (s : State) : (shift x d2 s).coefB = s.coefB := rfl
@[simp] theorem shift_predictor (x d2 : S16) (s : State) : (shift x d2 s).predictor = s.predictor := rfl
@[simp] theorem shift_nidx (x d2 : S16) (s : State) : (shift x d2 s).nidx = s.nidx + 1 := rfl
@[simp] theorem shift_phase (x d2 : S16) (s : State) : (shift x d2 s).phase = s.phase := rfl
@[simp] theorem shift_startPending (x d2 : S16) (s : State) : (shift x d2 s).startPending = s.startPending := rfl
@[simp] theorem shift_argCount (x d2 : S16) (s : State) : (shift x d2 s).argCount = s.argCount := rfl
@[simp] theorem shift_argCap (x d2 : S16) (s : State) : (shift x d2 s).argCap = s.argCap := rfl
@[simp] theorem shift_argNextra (x d2 : S16) (s : State) : (shift x d2 s).argNextra = s.argNextra := rfl
@[simp] theorem shift_status (x d2 : S16) (s : State) : (shift x d2 s).status = s.status := rfl
@[simp] theorem shift_inConsumed (x d2 : S16) (s : State) : (shift x d2 s).inConsumed = s.inConsumed := rfl
@[simp] theorem shift_outProduced (x d2 : S16) (s : State) : (shift x d2 s).outProduced = s.outProduced := rfl
@[simp] theorem shift_stdCoef (x d2 : S16) (s : State) : (shift x d2 s).stdCoef = s.stdCoef := rfl
@[simp] theorem shift_adapt (x d2 : S16) (s : State) : (shift x d2 s).adapt = s.adapt := rfl
@[simp] theorem shift_inMem (x d2 : S16) (s : State) : (shift x d2 s).inMem = s.inMem := rfl
@[simp] theorem shift_xcMem (x d2 : S16) (s : State) : (shift x d2 s).xcMem = s.xcMem := rfl
@[simp] theorem shift_outMem (x d2 : S16) (s : State) : (shift x d2 s).outMem = Memory.write s.outMem (s.outBase + (2 + s.nidx.toNat)) (normalizeToFloat x) := rfl
@[simp] theorem shift_inBase (x d2 : S16) (s : State) : (shift x d2 s).inBase = s.inBase := rfl
@[simp] theorem shift_xcBase (x d2 : S16) (s : State) : (shift x d2 s).xcBase = s.xcBase := rfl
@[simp] theorem shift_outBase (x d2 : S16) (s : State) : (shift x d2 s).outBase = s.outBase := rfl
@[simp] theorem shift_host (x d2 : S16) (s : State) : (shift x d2 s).host = s.host := rfl

@[simp] theorem seed0_delta (s : State) : (seed0 s).delta = s.delta := rfl
@[simp] theorem seed0_cur (s : State) : (seed0 s).cur = s.cur := rfl
@[simp] theorem seed0_prev (s : State) : (seed0 s).prev = s.prev := rfl
@[simp] theorem seed0_coefA (s : State) : (seed0 s).coefA = s.coefA := rfl
@[simp] theorem seed0_coefB (s : State) : (seed0 s).coefB = s.coefB := rfl
@[simp] theorem seed0_predictor (s : State) : (seed0 s).predictor = s.predictor := rfl
@[simp] theorem seed0_nidx (s : State) : (seed0 s).nidx = s.nidx := rfl
@[simp] theorem seed0_phase (s : State) : (seed0 s).phase = .seed1 := rfl
@[simp] theorem seed0_startPending (s : State) : (seed0 s).startPending = s.startPending := rfl
@[simp] theorem seed0_argCount (s : State) : (seed0 s).argCount = s.argCount := rfl
@[simp] theorem seed0_argCap (s : State) : (seed0 s).argCap = s.argCap := rfl
@[simp] theorem seed0_argNextra (s : State) : (seed0 s).argNextra = s.argNextra := rfl
@[simp] theorem seed0_status (s : State) : (seed0 s).status = s.status := rfl
@[simp] theorem seed0_inConsumed (s : State) : (seed0 s).inConsumed = s.inConsumed := rfl
@[simp] theorem seed0_outProduced (s : State) : (seed0 s).outProduced = s.outProduced := rfl
@[simp] theorem seed0_stdCoef (s : State) : (seed0 s).stdCoef = s.stdCoef := rfl
@[simp] theorem seed0_adapt (s : State) : (seed0 s).adapt = s.adapt := rfl
@[simp] theorem seed0_inMem (s : State) : (seed0 s).inMem = s.inMem := rfl
@[simp] theorem seed0_xcMem (s : State) : (seed0 s).xcMem = s.xcMem := rfl
@[simp] theorem seed0_outMem (s : State) : (seed0 s).outMem = Memory.write s.outMem (s.outBase + 0) (normalizeToFloat s.prev) := rfl
@[simp] theorem seed0_inBase (s : State) : (seed0 s).inBase = s.inBase := rfl
@[simp] theorem seed0_xcBase (s : State) : (seed0 s).xcBase = s.xcBase := rfl
@[simp] theorem seed0_outBase (s : State) : (seed0 s).outBase = s.outBase := rfl
@[simp] theorem seed0_host (s : State) : (seed0 s).host = s.host := rfl

@[simp] theorem seed1_delta (s : State) : (seed1 s).delta = s.delta := rfl
@[simp] theorem seed1_cur (s : State) : (seed1 s).cur = s.cur := rfl
@[simp] theorem seed1_prev (s : State) : (seed1 s).prev = s.prev := rfl
@[simp] theorem seed1_coefA (s : State) : (seed1 s).coefA = s.coefA := rfl
@[simp] theorem seed1_coefB (s : State) : (seed1 s).coefB = s.coefB := rfl
@[simp] theorem seed1_predictor (s : State) : (seed1 s).predictor = s.predictor := rfl
@[simp] theorem seed1_nidx (s : State) : (seed1 s).nidx = s.nidx := rfl
@[simp] theorem seed1_phase (s : State) : (seed1 s).phase = .run := rfl
@[simp] theorem seed1_startPending (s : State) : (seed1 s).startPending = s.startPending := rfl
@[simp] theorem seed1_argCount (s : State) : (seed1 s).argCount = s.argCount := rfl
@[simp] theorem seed1_argCap (s : State) : (seed1 s).argCap = s.argCap := rfl
@[simp] theorem seed1_argNextra (s : State) : (seed1 s).argNextra = s.argNextra := rfl
@[simp] theorem seed1_status (s : State) : (seed1 s).status = s.status := rfl
@[simp] theorem seed1_inConsumed (s : State) : (seed1 s).inConsumed = s.inConsumed := rfl
@[simp] theorem seed1_outProduced (s : State) : (seed1 s).outProduced = s.outProduced := rfl
@[simp] theorem seed1_stdCoef (s : State) : (seed1 s).stdCoef = s.stdCoef := rfl
@[simp] theorem seed1_adapt (s : State) : (seed1 s).adapt = s.adapt := rfl
@[simp] theorem seed1_inMem (s : State) : (seed1 s).inMem = s.inMem := rfl
@[simp] theorem seed1_xcMem (s : State) : (seed1 s).xcMem = s.xcMem := rfl
@[simp] theorem seed1_outMem (s : State) : (seed1 s).outMem = Memory.write s.outMem (s.outBase + 1) (normalizeToFloat s.cur) := rfl
@[simp] theorem seed1_inBase (s : State) : (seed1 s).inBase = s.inBase := rfl
@[simp] theorem seed1_xcBase (s : State) : (seed1 s).xcBase = s.xcBase := rfl
@[simp] theorem seed1_outBase (s : State) : (seed1 s).outBase = s.outBase := rfl
@[simp] theorem seed1_host (s : State) : (seed1 s).host = s.host := rfl

@[simp] theorem finish_delta (s : State) : (finish s).delta = s.delta := rfl
@[simp] theorem finish_cur (s : State) : (finish s).cur = s.cur := rfl
@[simp] theorem finish_prev (s : State) : (finish s).prev = s.prev := rfl
@[simp] theorem finish_coefA (s : State) : (finish s).coefA = s.coefA := rfl
@[simp] theorem finish_coefB (s : State) : (finish s).coefB = s.coefB := rfl
@[simp] theorem finish_predictor (s : State) : (finish s).predictor = s.predictor := rfl
@[simp] theorem finish_nidx (s : State) : (finish s).nidx = s.nidx := rfl
@[simp] theorem finish_phase (s : State) : (finish s).phase = .done := rfl
@[simp] theorem finish_startPending (s : State) : (finish s).startPending = s.startPending := rfl
@[simp] theorem finish_argCount (s : State) : (finish s).argCount = s.argCount := rfl
@[simp] theorem finish_argCap (s : State) : (finish s).argCap = s.argCap := rfl
@[simp] theorem finish_argNextra (s : State) : (finish s).argNextra = s.argNextra := rfl
@[simp] theorem finish_status (s : State) : (finish s).status = .ok := rfl
@[simp] theorem finish_inConsumed (s : State) : (finish s).inConsumed = BitVec.ofInt 32 (7 + (s.argCount.toInt - 2) / 2) := rfl
@[simp] theorem finish_outProduced (s : State) : (finish s).outProduced = s.argCount := rfl
@[simp] theorem finish_stdCoef (s : State) : (finish s).stdCoef = s.stdCoef := rfl
@[simp] theorem finish_adapt (s : State) : (finish s).adapt = s.adapt := rfl
@[simp] theorem finish_inMem (s : State) : (finish s).inMem = s.inMem := rfl
@[simp] theorem finish_xcMem (s : State) : (finish s).xcMem = s.xcMem := rfl
@[simp] theorem finish_outMem (s : State) : (finish s).outMem = s.outMem := rfl
@[simp] theorem finish_inBase (s : State) : (finish s).inBase = s.inBase := rfl
@[simp] theorem finish_xcBase (s : State) : (finish s).xcBase = s.xcBase := rfl
@[simp] theorem finish_outBase (s : State) : (finish s).outBase = s.outBase := rfl
@[simp] theorem finish_host (s : State) : (finish s).host = s.host := rfl

end Sys2Proof.Machine
end

