-- ==== Sys2Proof/Laws/Ops.lean ====
section
/-! SUPPORT. What each shared operation can do, said once: the provers cite these instead of unfolding the meanings. -/

namespace Sys2Proof.Machine

theorem checking_iff (s : State) : checking s = true ↔ resting s.phase = true ∧ s.startPending = true := by
  simp [checking]

/-- `preamble` gives a next state only in a state that a START has left, and then it raises the first failing check or latches. -/
theorem preamble_next {p : Byte} {d c q : S16} {s t : State} (h : preamble p d c q s = .next t) :
    checking s = true ∧
      ((∃ e, checkError p s = some e ∧ t = raise e s) ∨
        (checkError p s = none ∧ ∃ pair, resolveCoef p s = some pair ∧ t = latch p d c q pair s)) := by
  unfold preamble at h
  split at h
  · rename_i hc
    refine ⟨hc, ?_⟩
    split at h
    · rename_i e he
      cases h
      exact .inl ⟨e, he, rfl⟩
    · rename_i he
      split at h
      · rename_i pair hp
        cases h
        exact .inr ⟨he, pair, hp, rfl⟩
      · cases h
  · cases h

theorem preamble_error {p : Byte} {s : State} (d c q : S16) {e : BlockError} (hc : checking s = true)
    (he : checkError p s = some e) : preamble p d c q s = .next (raise e s) := by
  simp [preamble, hc, he]

theorem preamble_latch {p : Byte} {s : State} (d c q : S16) {pair : CoefPair} (hc : checking s = true)
    (he : checkError p s = none) (hp : resolveCoef p s = some pair) :
    preamble p d c q s = .next (latch p d c q pair s) := by
  simp [preamble, hc, he, hp]

theorem preamble_not_fault {p : Byte} {d c q : S16} {s : State} {r : Fault} : preamble p d c q s ≠ .fault r := by
  unfold preamble
  repeat' split
  all_goals simp

/-- `nibble` gives a next state exactly when a NIB step is due, and then it is `shift` of the two results. -/
theorem nibble_next {n : Nibble} {s t : State} :
    nibble n s = .next t ↔ nibbleDue s = true ∧
      t = shift (computeSample n s.cur s.prev s.coefA s.coefB s.delta) (computeDelta s.adapt n s.delta) s := by
  unfold nibble
  split <;> simp [*, eq_comm]

theorem nibble_not_fault {n : Nibble} {s : State} {r : Fault} : nibble n s ≠ .fault r := by
  unfold nibble
  split <;> simp

theorem andThen_next {o : Host.Outcome State Fault Refusal} {f : State → Host.Outcome State Fault Refusal} {t : State} :
    andThen o f = .next t ↔ ∃ u, o = .next u ∧ f u = .next t := by
  cases o <;> simp [andThen]

/-- A pair byte gives a next state exactly at an even NIDX with two nibbles due: its halves one after the other. -/
theorem execPair_next {h l : Nibble} {s t : State} :
    execPair h l s = .next t ↔ s.nidx.toNat % 2 = 0 ∧ ∃ u, nibble h s = .next u ∧ nibble l u = .next t := by
  unfold execPair
  split <;> simp [*, andThen_next]

/-- The sixteen nibble codes are one operation at sixteen codes. -/
theorem exec_decodeNibble (n : Nibble) (s : State) : exec (decodeNibble n) s = nibble n s := by
  obtain ⟨⟨v, hv⟩⟩ := n
  change v < 16 at hv
  interval_cases v <;> rfl

/-- The eight preamble forms are one operation at 256 predictor indices. -/
theorem exec_decodePreamble (b0 b1 b2 b3 b4 b5 b6 : Byte) (s : State) :
    exec (decodePreamble b0 b1 b2 b3 b4 b5 b6) s = preamble b0 (le16 b1 b2) (le16 b3 b4) (le16 b5 b6) s := by
  unfold decodePreamble
  split <;> first
    | rfl
    | (rename_i h
       have h0 : b0 = BitVec.ofNat 8 b0.toNat := by simp
       rw [h] at h0
       subst h0
       rfl)

/-- Whatever the instruction, `exec` runs one of three shared operations. -/
theorem exec_cases (i : Instr) (s : State) :
    (i.format = .P ∧ ∃ p d c q, exec i s = preamble p d c q s) ∨ (i.format = .N ∧ ∃ n, exec i s = nibble n s) ∨
      ∃ h l, i = .pair h l ∧ exec i s = execPair h l s := by
  cases i
  case pair h l => exact .inr (.inr ⟨h, l, rfl, rfl⟩)
  case preX p d c q => exact .inl ⟨rfl, p, d, c, q, rfl⟩
  case preS0 d c q => exact .inl ⟨rfl, 0, d, c, q, rfl⟩
  case preS1 d c q => exact .inl ⟨rfl, 1, d, c, q, rfl⟩
  case preS2 d c q => exact .inl ⟨rfl, 2, d, c, q, rfl⟩
  case preS3 d c q => exact .inl ⟨rfl, 3, d, c, q, rfl⟩
  case preS4 d c q => exact .inl ⟨rfl, 4, d, c, q, rfl⟩
  case preS5 d c q => exact .inl ⟨rfl, 5, d, c, q, rfl⟩
  case preS6 d c q => exact .inl ⟨rfl, 6, d, c, q, rfl⟩
  all_goals exact .inr (.inl ⟨rfl, _, rfl⟩)

/-- The fetched preamble is decoded from its seven bytes. -/
theorem fetchPreamble_some {s : State} {i : Instr} (h : fetchPreamble s = some i) :
    ∃ b0 b1 b2 b3 b4 b5 b6, inRead s 0 = some b0 ∧ inRead s 1 = some b1 ∧ inRead s 2 = some b2 ∧ inRead s 3 = some b3 ∧
      inRead s 4 = some b4 ∧ inRead s 5 = some b5 ∧ inRead s 6 = some b6 ∧
      i = decodePreamble b0 b1 b2 b3 b4 b5 b6 := by
  unfold fetchPreamble at h
  split at h
  · cases h
  · rename_i bs hbs
    revert hbs
    simp only [inBytes]
    cases inRead s 0 <;> cases inRead s (0 + 1) <;> cases inRead s (0 + 1 + 1) <;> cases inRead s (0 + 1 + 1 + 1) <;>
      cases inRead s (0 + 1 + 1 + 1 + 1) <;> cases inRead s (0 + 1 + 1 + 1 + 1 + 1) <;>
      cases inRead s (0 + 1 + 1 + 1 + 1 + 1 + 1) <;> intro hbs <;> simp at hbs
    subst hbs
    simp only [decode, Option.some.injEq] at h
    exact ⟨_, _, _, _, _, _, _, rfl, rfl, rfl, rfl, rfl, rfl, rfl, h.symm⟩

theorem fetchPreamble_of_bytes {s : State} {b0 b1 b2 b3 b4 b5 b6 : Byte} (h0 : inRead s 0 = some b0)
    (h1 : inRead s 1 = some b1) (h2 : inRead s 2 = some b2) (h3 : inRead s 3 = some b3) (h4 : inRead s 4 = some b4)
    (h5 : inRead s 5 = some b5) (h6 : inRead s 6 = some b6) :
    fetchPreamble s = some (decodePreamble b0 b1 b2 b3 b4 b5 b6) := by
  simp [fetchPreamble, inBytes, decode, h0, h1, h2, h3, h4, h5, h6]

/-- Everything the step after a START can answer. -/
theorem checkStep_next {s t : State} (h : checkStep s = .next t) :
    (∃ e, argError s = some e ∧ t = raise e s) ∨
    (argError s = none ∧ ∃ p, inRead s 0 = some p ∧
      ((unserved p s = true ∧ t = raise .malformedPreamble s) ∨
       (unserved p s = false ∧ ∃ d c q pair, resolveCoef p s = some pair ∧ t = latch p d c q pair s))) := by
  unfold checkStep at h
  split at h
  · rename_i e he
    cases h
    exact .inl ⟨e, he, rfl⟩
  · rename_i he
    split at h
    · cases h
    · rename_i p hp
      refine .inr ⟨he, p, hp, ?_⟩
      split at h
      · rename_i hu
        cases h
        exact .inl ⟨hu, rfl⟩
      · rename_i hu
        split at h
        · cases h
        · rename_i i hi
          obtain ⟨b0, b1, b2, b3, b4, b5, b6, h0, -, -, -, -, -, -, rfl⟩ := fetchPreamble_some hi
          obtain rfl : b0 = p := by simpa [h0] using hp
          rw [exec_decodePreamble] at h
          have hce : checkError b0 s = none := by simp [checkError, he, hu]
          obtain ⟨-, ⟨e, h1, -⟩ | ⟨-, pair, h2, h3⟩⟩ := preamble_next h
          · simp [hce] at h1
          · exact .inr ⟨by simpa using hu, _, _, _, pair, h2, h3⟩

/-- Everything a step can answer as a next state, guards included. -/
theorem step_next {s t : State} (h : step s = .next t) :
    (s.phase = .seed0 ∧ t = seed0 s) ∨
    (s.phase = .seed1 ∧ t = seed1 s) ∨
    (nibbleDue s = true ∧ ∃ n, fetchNibble s = some n ∧
      t = shift (computeSample n s.cur s.prev s.coefA s.coefB s.delta) (computeDelta s.adapt n s.delta) s) ∨
    (nibbleDue s = false ∧ finishDue s = true ∧ t = finish s) ∨
    (checking s = true ∧ checkStep s = .next t) ∨
    (resting s.phase = true ∧ s.startPending = false ∧ ∃ m rest, s.host = m :: rest ∧
      t = hostMove m { s with host := rest }) := by
  have hrest : resting s.phase = true → restStep s = .next t →
      (checking s = true ∧ checkStep s = .next t) ∨
      (resting s.phase = true ∧ s.startPending = false ∧ ∃ m rest, s.host = m :: rest ∧
        t = hostMove m { s with host := rest }) := by
    intro hr h
    unfold restStep at h
    split at h
    · rename_i hp
      exact .inl ⟨by simp [checking, hr, hp], h⟩
    · rename_i hp
      split at h
      · cases h
      · rename_i m rest hm
        cases h
        exact .inr ⟨hr, by simpa using hp, m, rest, hm, rfl⟩
  unfold step at h
  split at h
  · rename_i hp; exact .inr (.inr (.inr (.inr (hrest (by simp [hp, resting]) h))))
  · rename_i hp; cases h; exact .inl ⟨hp, rfl⟩
  · rename_i hp; cases h; exact .inr (.inl ⟨hp, rfl⟩)
  · unfold runStep at h
    split at h
    · rename_i hd
      split at h
      · cases h
      · rename_i n hn
        rw [exec_decodeNibble] at h
        exact .inr (.inr (.inl ⟨hd, n, hn, (nibble_next.1 h).2⟩))
    · rename_i hd
      split at h
      · rename_i hf; cases h; exact .inr (.inr (.inr (.inl ⟨by simpa using hd, hf, rfl⟩)))
      · cases h
  · rename_i hp; exact .inr (.inr (.inr (.inr (hrest (by simp [hp, resting]) h))))
  · rename_i hp; exact .inr (.inr (.inr (.inr (hrest (by simp [hp, resting]) h))))

end Sys2Proof.Machine
end

