-- ==== Sys2Proof/Laws/PerInstr.lean ====
section
/-! SUPPORT. Facts about every instruction as syntax, one lemma per constructor. -/

/-- What `EncodeShape` says of an instruction: how many bytes its encoding takes (R80), and that in formats N and B it is one byte of the width the format has (R82). -/
def Sys2Proof.Laws.EncodeShape.Statement (i : Sys2Proof.Instr) : Prop :=
  match i.format with
  | .P => (Sys2Proof.encode i).length = Sys2Proof.Config.preBytes
  | .N => ∃ n : Sys2Proof.Nibble, Sys2Proof.encode i = [0#4 ++ n]
  | .B => ∃ b : Sys2Proof.Byte, Sys2Proof.encode i = [b]

theorem Sys2Proof.Laws.EncodeShape.preS0 (d c q : Sys2Proof.S16) :
    Sys2Proof.Laws.EncodeShape.Statement (.preS0 d c q) := rfl

theorem Sys2Proof.Laws.EncodeShape.preS1 (d c q : Sys2Proof.S16) :
    Sys2Proof.Laws.EncodeShape.Statement (.preS1 d c q) := rfl

theorem Sys2Proof.Laws.EncodeShape.preS2 (d c q : Sys2Proof.S16) :
    Sys2Proof.Laws.EncodeShape.Statement (.preS2 d c q) := rfl

theorem Sys2Proof.Laws.EncodeShape.preS3 (d c q : Sys2Proof.S16) :
    Sys2Proof.Laws.EncodeShape.Statement (.preS3 d c q) := rfl

theorem Sys2Proof.Laws.EncodeShape.preS4 (d c q : Sys2Proof.S16) :
    Sys2Proof.Laws.EncodeShape.Statement (.preS4 d c q) := rfl

theorem Sys2Proof.Laws.EncodeShape.preS5 (d c q : Sys2Proof.S16) :
    Sys2Proof.Laws.EncodeShape.Statement (.preS5 d c q) := rfl

theorem Sys2Proof.Laws.EncodeShape.preS6 (d c q : Sys2Proof.S16) :
    Sys2Proof.Laws.EncodeShape.Statement (.preS6 d c q) := rfl

theorem Sys2Proof.Laws.EncodeShape.preX (p : Sys2Proof.Byte) (d c q : Sys2Proof.S16) :
    Sys2Proof.Laws.EncodeShape.Statement (.preX p d c q) := rfl

theorem Sys2Proof.Laws.EncodeShape.nib0 : Sys2Proof.Laws.EncodeShape.Statement .nib0 := ⟨0x0#4, rfl⟩

theorem Sys2Proof.Laws.EncodeShape.nib1 : Sys2Proof.Laws.EncodeShape.Statement .nib1 := ⟨0x1#4, rfl⟩

theorem Sys2Proof.Laws.EncodeShape.nib2 : Sys2Proof.Laws.EncodeShape.Statement .nib2 := ⟨0x2#4, rfl⟩

theorem Sys2Proof.Laws.EncodeShape.nib3 : Sys2Proof.Laws.EncodeShape.Statement .nib3 := ⟨0x3#4, rfl⟩

theorem Sys2Proof.Laws.EncodeShape.nib4 : Sys2Proof.Laws.EncodeShape.Statement .nib4 := ⟨0x4#4, rfl⟩

theorem Sys2Proof.Laws.EncodeShape.nib5 : Sys2Proof.Laws.EncodeShape.Statement .nib5 := ⟨0x5#4, rfl⟩

theorem Sys2Proof.Laws.EncodeShape.nib6 : Sys2Proof.Laws.EncodeShape.Statement .nib6 := ⟨0x6#4, rfl⟩

theorem Sys2Proof.Laws.EncodeShape.nib7 : Sys2Proof.Laws.EncodeShape.Statement .nib7 := ⟨0x7#4, rfl⟩

theorem Sys2Proof.Laws.EncodeShape.nib8 : Sys2Proof.Laws.EncodeShape.Statement .nib8 := ⟨0x8#4, rfl⟩

theorem Sys2Proof.Laws.EncodeShape.nib9 : Sys2Proof.Laws.EncodeShape.Statement .nib9 := ⟨0x9#4, rfl⟩

theorem Sys2Proof.Laws.EncodeShape.nibA : Sys2Proof.Laws.EncodeShape.Statement .nibA := ⟨0xA#4, rfl⟩

theorem Sys2Proof.Laws.EncodeShape.nibB : Sys2Proof.Laws.EncodeShape.Statement .nibB := ⟨0xB#4, rfl⟩

theorem Sys2Proof.Laws.EncodeShape.nibC : Sys2Proof.Laws.EncodeShape.Statement .nibC := ⟨0xC#4, rfl⟩

theorem Sys2Proof.Laws.EncodeShape.nibD : Sys2Proof.Laws.EncodeShape.Statement .nibD := ⟨0xD#4, rfl⟩

theorem Sys2Proof.Laws.EncodeShape.nibE : Sys2Proof.Laws.EncodeShape.Statement .nibE := ⟨0xE#4, rfl⟩

theorem Sys2Proof.Laws.EncodeShape.nibF : Sys2Proof.Laws.EncodeShape.Statement .nibF := ⟨0xF#4, rfl⟩

theorem Sys2Proof.Laws.EncodeShape.pair (h l : Sys2Proof.Nibble) :
    Sys2Proof.Laws.EncodeShape.Statement (.pair h l) := ⟨h ++ l, rfl⟩
end

