-- ==== Sys2Proof/Laws/Run.lean ====
section
/-! SUPPORT. The bridge between the machine's tests and the words of Safety.lean, and how a run takes its first step. -/

namespace Sys2Proof.Machine

/-- A run of `k + 1` steps is a step and a run of `k`. -/
theorem run_succ (M : Host.Core) (k : Nat) {s t : M.State} (h : M.step s = .next t) : M.run (k + 1) s = M.run k t := by
  simp only [Host.Core.run, h]

theorem run_next {s t : State} (k : Nat) (h : step s = .next t) :
    Sys2Proof.core.run (k + 1) s = Sys2Proof.core.run k t :=
  run_succ Sys2Proof.core k h

theorem run_fault {s : State} (k : Nat) {r : Fault} (h : step s = .fault r) :
    Sys2Proof.core.run (k + 1) s = .fault r := by
  have h' : Sys2Proof.core.step s = .fault r := h
  simp only [Host.Core.run, h']

theorem run_refused {s : State} (k : Nat) {r : Refusal} (h : step s = .refused r) :
    Sys2Proof.core.run (k + 1) s = .refused r := by
  have h' : Sys2Proof.core.step s = .refused r := h
  simp only [Host.Core.run, h']

theorem nibbleDue_iff (s : State) : nibbleDue s = true ↔ NibbleDue s := by simp [nibbleDue, NibbleDue]

theorem finishDue_iff (s : State) :
    finishDue s = true ↔ s.phase = .run ∧ (s.nidx.toNat : Int) = s.argCount.toInt - 2 := by
  simp [finishDue]

theorem started_iff (s : State) : checking s = true ↔ Started s := by
  unfold checking Started
  cases s.phase <;> simp [resting]

/-- The step of a state that a START has left is CHECK. -/
theorem step_of_started {s : State} (h : Started s) : step s = checkStep s := by
  obtain ⟨hp | hp | hp, hq⟩ := h <;> simp [step, hp, restStep, hq]

theorem argError_none_iff (s : State) : argError s = none ↔ ArgsValid s := by
  unfold argError badCount capTooSmall ArgsValid
  split
  · simp_all; omega
  · split
    · simp_all
    · simp_all; omega

theorem unserved_iff (p : Byte) (s : State) : unserved p s = false ↔ Served p s := by
  simp [unserved, Served, Config.stdCount]; omega

theorem checkError_none_iff (p : Byte) (s : State) : checkError p s = none ↔ ArgsValid s ∧ Served p s := by
  rw [← argError_none_iff, ← unserved_iff]
  unfold checkError
  cases argError s <;> simp

/-- The pair of a predictor index depends on the table and on XC alone. -/
theorem resolveCoef_congr {p : Byte} {s t : State} (h1 : t.stdCoef = s.stdCoef) (h2 : t.xcMem = s.xcMem)
    (h3 : t.xcBase = s.xcBase) : resolveCoef p t = resolveCoef p s := by
  unfold resolveCoef stdPair extraPair xcRead
  rw [h1, h2, h3]

/-- NIDX does not wrap while a nibble is due (R27). -/
theorem nidx_succ {s : State} (h : NibbleDue s) : (s.nidx + 1).toNat = s.nidx.toNat + 1 := by
  have h1 := h.2
  have h2 := BitVec.toInt_lt (x := s.argCount)
  simp only [Nat.add_one_sub_one, Int.reducePow] at h2
  rw [BitVec.toNat_add]
  apply Nat.mod_eq_of_lt
  have h3 : (1 : Count).toNat = 1 := rfl
  rw [h3]
  omega

theorem tdiv_eq_int_tdiv (a : Int) : tdiv a 256 = Int.tdiv a 256 := by
  unfold tdiv
  split
  · rename_i h
    exact (Int.tdiv_eq_ediv_of_nonneg h).symm
  · rw [← Int.tdiv_eq_ediv_of_nonneg (by omega), Int.neg_tdiv, neg_neg]

end Sys2Proof.Machine
end

