-- ==== Sys2Proof/Tests/Slice0.lean ====
section
/-! SUPPORT. Tests of the model against the spec's own words and vectors, each about one step, and a witness for the hypotheses of every statement of Certificates/Slice0/Obligations.lean. -/

namespace Sys2Proof.Tests

open Sys2Proof.Machine Sys2Proof.Claims

/-! ### Well-formedness -/

theorem test_wf_refuses_prex_of_a_standard_index : (Instr.preX 6 0 0 0).wf = false ∧ (Instr.preX 0 1 2 3).wf = false := by decide

theorem test_wf_accepts_every_extra_index_bound : (Instr.preX 7 0 0 0).wf = true ∧ (Instr.preX 255 0 0 0).wf = true := by decide

/-! ### Decoding: words written out from spec/30_encoding.md R81, R82, R88, R89 and the examples of R161 to R168 -/

theorem test_decode_preS0 : decode .P [0x00, 0x10, 0x00, 0x00, 0x00, 0x00, 0x00] = .ok (.preS0 16 0 0, []) := by rfl

theorem test_decode_preS1 : decode .P [0x01, 0x20, 0x00, 0x64, 0x00, 0x32, 0x00] = .ok (.preS1 32 100 50, []) := by rfl

theorem test_decode_preS2 : decode .P [0x02, 0x00, 0x01, 0xE8, 0x03, 0x18, 0xFC] = .ok (.preS2 256 1000 (-1000), []) := by rfl

theorem test_decode_preS3 : decode .P [0x03, 0xFB, 0xFF, 0x00, 0x80, 0xFF, 0x7F] = .ok (.preS3 (-5) (-32768) 32767, []) := by rfl

theorem test_decode_preS4 : decode .P [0x04, 0x10, 0x00, 0x00, 0x01, 0x00, 0x00] = .ok (.preS4 16 256 0, []) := by rfl

theorem test_decode_preS5 : decode .P [0x05, 0x64, 0x00, 0x18, 0xFC, 0xD0, 0x07] = .ok (.preS5 100 (-1000) 2000, []) := by rfl

theorem test_decode_preS6 : decode .P [0x06, 0x10, 0x00, 0xE8, 0x03, 0xE8, 0x03] = .ok (.preS6 16 1000 1000, []) := by rfl

theorem test_decode_preX : decode .P [0xFF, 0x00, 0x00, 0x00, 0x00, 0x00, 0x00] = .ok (.preX 255 0 0 0, []) := by rfl

theorem test_decode_nibble_codes_0_to_7 :
    decodeNibble 0b0000#4 = .nib0 ∧ decode .N [0b00000000#8] = .ok (.nib0, []) ∧
    decodeNibble 0b0001#4 = .nib1 ∧ decode .N [0b00000001#8] = .ok (.nib1, []) ∧
    decodeNibble 0b0010#4 = .nib2 ∧ decode .N [0b00000010#8] = .ok (.nib2, []) ∧
    decodeNibble 0b0011#4 = .nib3 ∧ decode .N [0b00000011#8] = .ok (.nib3, []) ∧
    decodeNibble 0b0100#4 = .nib4 ∧ decode .N [0b00000100#8] = .ok (.nib4, []) ∧
    decodeNibble 0b0101#4 = .nib5 ∧ decode .N [0b00000101#8] = .ok (.nib5, []) ∧
    decodeNibble 0b0110#4 = .nib6 ∧ decode .N [0b00000110#8] = .ok (.nib6, []) ∧
    decodeNibble 0b0111#4 = .nib7 ∧ decode .N [0b00000111#8] = .ok (.nib7, []) := by
  refine ⟨rfl, rfl, rfl, rfl, rfl, rfl, rfl, rfl, rfl, rfl, rfl, rfl, rfl, rfl, rfl, rfl⟩

theorem test_decode_nibble_codes_8_to_15 :
    decodeNibble 0b1000#4 = .nib8 ∧ decode .N [0b00001000#8] = .ok (.nib8, []) ∧
    decodeNibble 0b1001#4 = .nib9 ∧ decode .N [0b00001001#8] = .ok (.nib9, []) ∧
    decodeNibble 0b1010#4 = .nibA ∧ decode .N [0b00001010#8] = .ok (.nibA, []) ∧
    decodeNibble 0b1011#4 = .nibB ∧ decode .N [0b00001011#8] = .ok (.nibB, []) ∧
    decodeNibble 0b1100#4 = .nibC ∧ decode .N [0b00001100#8] = .ok (.nibC, []) ∧
    decodeNibble 0b1101#4 = .nibD ∧ decode .N [0b00001101#8] = .ok (.nibD, []) ∧
    decodeNibble 0b1110#4 = .nibE ∧ decode .N [0b00001110#8] = .ok (.nibE, []) ∧
    decodeNibble 0b1111#4 = .nibF ∧ decode .N [0b00001111#8] = .ok (.nibF, []) := by
  refine ⟨rfl, rfl, rfl, rfl, rfl, rfl, rfl, rfl, rfl, rfl, rfl, rfl, rfl, rfl, rfl, rfl⟩

theorem test_decode_pair : decode .B [0x3F] = .ok (.pair 0x3 0xF, []) ∧ decode .B [0xF8, 0x0C] = .ok (.pair 0xF 0x8, [0x0C]) := ⟨rfl, rfl⟩

theorem test_decode_rejects_by_name : decode .P [0x00, 0x10] = .error .truncatedPreamble ∧ decode .N [0x10] = .error .notOneNibble ∧
    decode .B [] = .error .noByte := ⟨rfl, rfl, rfl⟩

/-- The table's `match` words (spec/opcode_table.json): byte 0 of a preamble is bits 55:48. -/
theorem test_decode_table_words : decodeTableWord 56 0x06000000000000 = some (.preS6 0 0 0) ∧
    decodeTableWord 56 0x80100000000000 = some (.preX 0x80 16 0 0) ∧ decodeTableWord 8 0x9 = some .nib9 ∧
    decodeTableWord 4 0x9 = some .nib9 ∧ decodeTableWord 8 0x9A = some (.pair 0x9 0xA) := by decide

/-! ### Helper functions: spec/40_helpers.md R110, R120 -/

theorem test_tdiv_truncates : tdiv 511 256 = 1 ∧ tdiv (-1) 256 = 0 ∧ tdiv (-257) 256 = -1 ∧ tdiv (-512) 256 = -2 ∧
    tdiv (-876000) 256 = -3421 := by decide

theorem test_normalize_ends : normalizeToFloat 32767 = 0x3F800000 ∧ normalizeToFloat (-32768) = 0xBF800000 ∧
    normalizeToFloat 0 = 0 := by decide

theorem test_normalize_rounds : normalizeToFloat 16384 = 0x3F000100 ∧ normalizeToFloat 12345 = 0x3EC0E582 ∧
    normalizeToFloat 3 = 0x38C00180 ∧ normalizeToFloat (-32767) = 0xBF7FFE00 := by decide

/-! ### The instructions: the examples of R161 to R168 and R180 to R195 -/

/-- What a test looks at in a next state. -/
def view {α : Type} (f : State → α) : Answer → Option α
  | .next s => some (f s)
  | .fault _ => none
  | .refused _ => none

/-- The state a START for `count` samples has left, with the bytes of IN and the elements of XC given. -/
def startedState (count cap nextra : Count) (inp : List Byte) (xc : List S16) : State :=
  { State.reset with
    startPending := true
    argCount := count
    argCap := cap
    argNextra := nextra
    inMem := (List.range inp.length).zip inp
    xcMem := (List.range xc.length).zip xc }

/-- What LATCH leaves: DELTA, CUR, PREV, COEFA, COEFB, PREDICTOR and PHASE. -/
def latchView (s : State) : List Int × Phase :=
  ([s.delta.toInt, s.cur.toInt, s.prev.toInt, s.coefA.toInt, s.coefB.toInt, s.predictor.toNat], s.phase)

theorem test_exec_preS0 : view latchView (exec (.preS0 16 0 0) (startedState 4 4 0 [] [])) =
    some ([16, 0, 0, 256, 0, 0], .seed0) := by decide

theorem test_exec_preS1 : view latchView (exec (.preS1 32 100 50) (startedState 4 4 0 [] [])) =
    some ([32, 100, 50, 512, -256, 1], .seed0) := by decide

theorem test_exec_preS2 : view latchView (exec (.preS2 256 1000 (-1000)) (startedState 4 4 0 [] [])) =
    some ([256, 1000, -1000, 0, 0, 2], .seed0) := by decide

theorem test_exec_preS3 : view latchView (exec (.preS3 16 1024 1024) (startedState 4 4 0 [] [])) =
    some ([16, 1024, 1024, 192, 64, 3], .seed0) := by decide

theorem test_exec_preS4 : view latchView (exec (.preS4 16 256 0) (startedState 4 4 0 [] [])) =
    some ([16, 256, 0, 240, 0, 4], .seed0) := by decide

theorem test_exec_preS5 : view latchView (exec (.preS5 100 (-1000) 2000) (startedState 4 4 0 [] [])) =
    some ([100, -1000, 2000, 460, -208, 5], .seed0) := by decide

theorem test_exec_preS6 : view latchView (exec (.preS6 16 1000 1000) (startedState 4 4 0 [] [])) =
    some ([16, 1000, 1000, 392, -232, 6], .seed0) := by decide

theorem test_exec_preX_latches_its_pair : view latchView (exec (.preX 8 100 (-2000) 1500) (startedState 4 4 2 [] [100, 50, -300, 700])) =
    some ([100, -2000, 1500, -300, 700, 8], .seed0) := by decide

/-- Vector V-X4. -/
theorem test_exec_preX_without_pair : view (fun s => (s.phase, s.status.code)) (exec (.preX 8 16 0 0) (startedState 4 4 1 [] [100, 50])) =
    some (.fault, 1) := by decide

/-- The start state of the examples of spec/44_nibble_codes.md. -/
def nibbleState : State :=
  { State.reset with phase := .run, argCount := 6, argCap := 6, delta := 100, cur := 1000, prev := 900, coefA := 512, coefB := -256 }

/-- What a nibble code leaves: the sample, the new delta, PREV, NIDX and the element of OUT written. -/
def nibbleView (s : State) : List Int × Option F32 :=
  ([s.cur.toInt, s.delta.toInt, s.prev.toInt, s.nidx.toNat], outRead s 2)

theorem test_exec_nib0 : view nibbleView (exec .nib0 nibbleState) = some ([1100, 89, 1000, 1], some 0x3D098113) := by decide

theorem test_exec_nib1 : view nibbleView (exec .nib1 nibbleState) = some ([1200, 89, 1000, 1], some 0x3D16012C) := by decide

theorem test_exec_nib2 : view nibbleView (exec .nib2 nibbleState) = some ([1300, 89, 1000, 1], some 0x3D228145) := by decide

theorem test_exec_nib3 : view nibbleView (exec .nib3 nibbleState) = some ([1400, 89, 1000, 1], some 0x3D2F015E) := by decide

theorem test_exec_nib4 : view nibbleView (exec .nib4 nibbleState) = some ([1500, 119, 1000, 1], some 0x3D3B8177) := by decide

theorem test_exec_nib5 : view nibbleView (exec .nib5 nibbleState) = some ([1600, 159, 1000, 1], some 0x3D480190) := by decide

theorem test_exec_nib6 : view nibbleView (exec .nib6 nibbleState) = some ([1700, 200, 1000, 1], some 0x3D5481A9) := by decide

theorem test_exec_nib7 : view nibbleView (exec .nib7 nibbleState) = some ([1800, 239, 1000, 1], some 0x3D6101C2) := by decide

theorem test_exec_nib8 : view nibbleView (exec .nib8 nibbleState) = some ([300, 300, 1000, 1], some 0x3C16012C) := by decide

theorem test_exec_nib9 : view nibbleView (exec .nib9 nibbleState) = some ([400, 239, 1000, 1], some 0x3C480190) := by decide

theorem test_exec_nibA : view nibbleView (exec .nibA nibbleState) = some ([500, 200, 1000, 1], some 0x3C7A01F4) := by decide

theorem test_exec_nibB : view nibbleView (exec .nibB nibbleState) = some ([600, 159, 1000, 1], some 0x3C96012C) := by decide

theorem test_exec_nibC : view nibbleView (exec .nibC nibbleState) = some ([700, 119, 1000, 1], some 0x3CAF015E) := by decide

theorem test_exec_nibD : view nibbleView (exec .nibD nibbleState) = some ([800, 89, 1000, 1], some 0x3CC80190) := by decide

theorem test_exec_nibE : view nibbleView (exec .nibE nibbleState) = some ([900, 89, 1000, 1], some 0x3CE101C2) := by decide

theorem test_exec_nibF : view nibbleView (exec .nibF nibbleState) = some ([1000, 89, 1000, 1], some 0x3CFA01F4) := by decide

/-- Vector V-D8, V-P12: a negative delta is used as it is and adapts to the floor. -/
theorem test_exec_nib7_negative_delta : view nibbleView (exec .nib7 { nibbleState with delta := -16, cur := 100, prev := 0, coefA := 256, coefB := 0 }) =
    some ([-12, 16, 100, 1], some 0xB9C00000) := by decide

/-- The first pair byte of program P2: samples 246 and 588, delta 67. -/
theorem test_exec_pair : view (fun s => (nibbleView s, outRead s 3))
    (exec (.pair 0x3 0x7) { nibbleState with delta := 32, cur := 100, prev := 50 }) =
    some (([588, 67, 246, 2], some 0x3BF601EC), some 0x3C930126) := by decide

theorem test_exec_pair_refused_at_odd_index :
    exec (.pair 0 0) { nibbleState with nidx := 1 } = .refused .outOfPhase := rfl

/-! ### The other steps: vectors V-X1 to V-X16, programs P1, P6 -/

/-- PHASE, STATUS code, IN_CONSUMED and OUT_PRODUCED. -/
def endView (s : State) : Phase × List Nat := (s.phase, [s.status.code, s.inConsumed.toNat, s.outProduced.toNat])

/-- Vectors V-X1, V-X2, V-X3, V-X9, V-X10, V-X6. No byte of IN is needed before the arguments are good. -/
theorem test_step_errors :
    view endView (step (startedState 5 10 0 [] [])) = some (.fault, [2, 0, 0]) ∧
    view endView (step (startedState 4 3 0 [] [])) = some (.fault, [3, 0, 0]) ∧
    view endView (step (startedState 4 4 0 [7] [])) = some (.fault, [1, 0, 0]) ∧
    view endView (step (startedState 5 0 0 [200] [])) = some (.fault, [2, 0, 0]) ∧
    view endView (step (startedState 4 3 0 [200] [])) = some (.fault, [3, 0, 0]) ∧
    view endView (step (startedState (-2) 10 0 [] [])) = some (.fault, [2, 0, 0]) := by decide

/-- Program P6: the seeds of a block. -/
theorem test_step_seeds : view (fun s => (outRead s 0, s.phase)) (step { nibbleState with phase := .seed0, prev := 32767, cur := -32768 }) =
      some (some 0x3F800000, .seed1) ∧
    view (fun s => (outRead s 1, s.phase)) (step { nibbleState with phase := .seed1, prev := 32767, cur := -32768 }) =
      some (some 0xBF800000, .run) := by decide

/-- Programs P4 and P6. -/
theorem test_step_finish : view endView (step { nibbleState with nidx := 4 }) = some (.done, [0, 9, 6]) ∧
    view endView (step { nibbleState with argCount := 2 }) = some (.done, [0, 7, 2]) := by decide

theorem test_step_of_placed_words :
    view nibbleView (step (State.reset.withFetchWord 8 0x8)) = view nibbleView (exec .nib8 (State.reset.withFetchWord 8 0x8)) ∧
    view latchView (step (State.reset.withFetchWord 56 0x05640018FCD007)) = some ([100, -1000, 2000, 460, -208, 5], .seed0) ∧
    view latchView (step (State.reset.withFetchWord 56 0xFF000000000000)) = some ([0, 0, 0, 0, 0, 255], .seed0) := by decide

/-! ### Witnesses: a concrete state for the hypotheses of every statement, each clause at a boundary of its range -/

/-- Program P1 after its START. -/
def startP1 : State := startedState 4 4 0 [0x00, 0x10, 0x00, 0x00, 0x00, 0x00, 0x00, 0x00] []

/-- Program P4's preamble and table, for two nibbles, after its START. -/
def startP4 : State := startedState 4 4 1 [0x07, 0x10, 0x00, 0x07, 0x00, 0x03, 0x00, 0x00] [100, 50]

/-- Inside a block of four nibbles latched by `PRE.S1`, at its first nibble; its nine bytes are in IN. -/
def runState : State :=
  { nibbleState with
    predictor := 1
    inMem := (List.range 9).zip [0x01, 0x20, 0x00, 0x64, 0x00, 0x32, 0x00, 0x37, 0xF8] }

theorem startP1_launchable : Launchable startP1 := by decide

theorem startP4_launchable : Launchable startP4 := by decide

theorem startP1_inv : Inv startP1 :=
  { memories := by decide, active := by decide, seeds := by decide, floor := by decide, done := by decide,
    fault := by decide }

theorem runState_inv : Inv runState :=
  { memories := by decide, active := by decide, seeds := by decide, floor := by decide, done := by decide,
    fault := by decide }

theorem seedState_inv : Inv { runState with phase := .seed0 } ∧ Inv { runState with phase := .seed1 } :=
  ⟨{ memories := by decide, active := by decide, seeds := by decide, floor := by decide, done := by decide,
     fault := by decide },
   { memories := by decide, active := by decide, seeds := by decide, floor := by decide, done := by decide,
     fault := by decide }⟩

theorem lastState_inv : Inv { runState with nidx := 3 } ∧ Inv { runState with nidx := 4 } :=
  ⟨{ memories := by decide, active := by decide, seeds := by decide, floor := by decide, done := by decide,
     fault := by decide },
   { memories := by decide, active := by decide, seeds := by decide, floor := by decide, done := by decide,
     fault := by decide }⟩

theorem witness_RunStepExecutesDecodedNibble :
    (NibbleDue runState ∧ inRead runState (7 + runState.nidx.toNat / 2) = some 0x37 ∧ runState.nidx.toNat % 2 = 0) ∧
    (NibbleDue { runState with nidx := 3 } ∧ inRead { runState with nidx := 3 } (7 + 3 / 2) = some 0xF8) ∧
    (NibbleDue nibbleState ∧ inRead nibbleState (7 + nibbleState.nidx.toNat / 2) = none) := by decide

theorem witness_StartedStepExecutesDecodedPreamble :
    Started startP4 ∧ ArgsValid startP4 ∧ inRead startP4 0 = some 0x07 ∧ inRead startP4 1 = some 0x10 ∧
    inRead startP4 2 = some 0 ∧ inRead startP4 3 = some 7 ∧ inRead startP4 4 = some 0 ∧ inRead startP4 5 = some 3 ∧
    inRead startP4 6 = some 0 := by decide

theorem witness_DecodeOfEncodeIsIdentity : (Instr.preX 7 0 0 0).wf = true ∧ (Instr.preX 255 0 0 0).wf = true ∧
    (Instr.preS6 0 0 0).wf = true ∧ Instr.nibF.wf = true ∧ (Instr.pair 15 15).wf = true := by decide

theorem witness_EncodeOfDecodeIsIdentity : decode .N [0x0F] = .ok (.nibF, []) ∧ 7 ≤ [0, 0, 0, 0, 0, 0, (0 : Byte)].length ∧
    1 ≤ [(0 : Byte)].length := ⟨rfl, by decide⟩

theorem witness_DivisionTruncatesTowardZero : (0 : Int) < 1 ∧ (0 : Int) ≤ 0 ∧ (-1 : Int) < 0 := by decide

theorem witness_SaturationClampsToSixteenBits : (32768 : Int) > 32767 ∧ (-32769 : Int) < -32768 ∧
    (-32768 : Int) ≤ -32768 ∧ (-32768 : Int) ≤ 32767 := by decide

theorem witness_ShrinkingDeltaSettlesAtFloor : Config.adapt.get 0 = 230#16 ∧ 1 ≤ 1 ∧ 69 ≤ 69 := by decide

theorem witness_NormalizationIsExactBelowZero : (-1 : S16).toInt < 0 ∧ (-32768 : S16).toInt < 0 := by decide

theorem witness_NormalizationRoundsToNearestEven : 0 < (1 : S16).toInt ∧ 0 < (32767 : S16).toInt ∧
    f32Normal 0x3F800000 ∧ (0x3F800000 : F32) ≠ normalizeToFloat 1 := by decide

theorem witness_NormalizationIsStrictlyIncreasing : (-32768 : S16).toInt < (32767 : S16).toInt ∧
    (32766 : S16).toInt < (32767 : S16).toInt := by decide

theorem witness_PreS0LatchesUnitPair : Started startP1 ∧ ArgsValid startP1 ∧ startP1.stdCoef.get 0 = ⟨256#16, 0#16⟩ := by decide

theorem witness_StandardPreamblesTakeTablePair : Started (startedState 2 2 0 [] []) ∧ ArgsValid (startedState 2 2 0 [] []) := by decide

theorem witness_DefaultPairsGiveTheirPredictions : Started startP1 ∧ ArgsValid startP1 ∧ startP1.stdCoef = Config.stdCoef := by decide

theorem witness_PreXLatchesExtraPairOrRaises :
    (7 ≤ (7 : Byte).toNat ∧ Started startP1 ∧ ArgsValid startP1 ∧ startP1.argNextra.toNat ≤ (7 : Byte).toNat - 7) ∧
    (Started startP4 ∧ ArgsValid startP4 ∧ (7 : Byte).toNat - 7 < startP4.argNextra.toNat ∧
      xcRead startP4 (2 * ((7 : Byte).toNat - 7)) = some 100 ∧ xcRead startP4 (2 * ((7 : Byte).toNat - 7) + 1) = some 50) ∧
    ((startedState 4 4 248 [] []).argNextra.toNat ≤ (255 : Byte).toNat - 7) := by decide

theorem witness_PreXRefusesMissingExtraPair : 7 ≤ (255 : Byte).toNat ∧ Started (startedState 4 4 249 [] []) ∧
    ArgsValid (startedState 4 4 249 [] []) ∧ (255 : Byte).toNat - 7 < (startedState 4 4 249 [] []).argNextra.toNat ∧
    xcRead (startedState 4 4 249 [] []) (2 * ((255 : Byte).toNat - 7)) = none := by decide

theorem witness_PreambleFormsLeaveMemoryAlone :
    (Instr.preS0 16 0 0).format = .P ∧ (∃ t, exec (.preS0 16 0 0) startP1 = .next t ∧ t.phase = .seed0) ∧
    (∃ t, exec (.preX 7 16 0 0) startP1 = .next t ∧ t.phase = .fault) := ⟨rfl, ⟨_, rfl, rfl⟩, ⟨_, rfl, rfl⟩⟩

theorem witness_LatchLoadsLittleEndianFields : Launchable startP1 ∧ (inFun startP1 0).toNat < 7 ∧ Launchable startP4 ∧
    7 ≤ (inFun startP4 0).toNat := ⟨startP1_launchable, by decide, startP4_launchable, by decide⟩

theorem witness_NibbleCodeShiftsWindow : NibbleDue nibbleState ∧
    (NibbleDue runState ∧ inRead runState (7 + runState.nidx.toNat / 2) = some 0x37) ∧
    (NibbleDue { runState with nidx := 3 } ∧ inRead { runState with nidx := 3 } (7 + 3 / 2) = some 0xF8) := by decide

theorem witness_Nib0EmitsPredictionItself : NibbleDue nibbleState ∧ nibbleState.adapt.get 0 = 230#16 := by decide

theorem witness_PositiveNibbleCodes : NibbleDue nibbleState ∧ nibbleState.adapt = Config.adapt := by decide

theorem witness_NegativeNibbleCodes : NibbleDue { nibbleState with nidx := 3 } ∧ nibbleState.adapt = Config.adapt := by decide

theorem witness_NibbleCodesWriteOneElement : Instr.nib8.format = .N ∧ ∃ t, exec .nib8 nibbleState = .next t := ⟨rfl, _, rfl⟩

theorem witness_PairIsHighThenLowNibble : runState.phase = .run ∧ runState.nidx.toNat % 2 = 0 ∧
    (runState.nidx.toNat : Int) + 1 < runState.argCount.toInt - 2 ∧
    (({ runState with nidx := 2 } : State).nidx.toNat : Int) + 1 < runState.argCount.toInt - 2 ∧
    inRead runState (7 + runState.nidx.toNat / 2) = some (0x3#4 ++ 0x7#4) := by decide

theorem witness_PairWritesTwoElements : ∃ t, exec (.pair 0x3 0x7) runState = .next t := ⟨_, rfl⟩

theorem witness_InstructionsOutOfPhaseAreRefused :
    ((Instr.preS0 0 0 0).format = .P ∧ ¬ Started nibbleState) ∧
    (Instr.nib0.format = .N ∧ ¬ NibbleDue startP1 ∧ ¬ NibbleDue { nibbleState with nidx := 4 }) ∧
    ((Instr.pair 0 0).format = .B ∧ ¬ (({ nibbleState with nidx := 1 } : State).nidx.toNat % 2 = 0)) := by decide

theorem witness_Seed0EmitsPreviousSample : ({ runState with phase := .seed0 } : State).phase = .seed0 := rfl

theorem witness_SeedsComeOutPreviousFirst : ({ runState with phase := .seed1 } : State).phase = .seed1 ∧ Launchable startP4 :=
  ⟨rfl, startP4_launchable⟩

theorem witness_FinishReportsCursors : ({ runState with nidx := 4 } : State).phase = .run ∧
    ((({ runState with nidx := 4 } : State).nidx.toNat : Int) = runState.argCount.toInt - 2) ∧
    7 ≤ 9 ∧ runState.argCount.toInt = 2 * ((9 : Int) - 7) + 2 := by decide

theorem witness_CheckRaisesFirstFailingTest :
    (Started (startedState 1 0 0 [] []) ∧ (startedState 1 0 0 [] []).argCount.toInt < 2) ∧
    (Started (startedState 3 0 0 [] []) ∧ (startedState 3 0 0 [] []).argCount.toInt % 2 = 1) ∧
    (2 ≤ (startedState 2 1 0 [] []).argCount.toInt ∧ (startedState 2 1 0 [] []).argCount.toInt % 2 = 0 ∧
      ((startedState 2 1 0 [] []).argCap.toNat : Int) < (startedState 2 1 0 [] []).argCount.toInt) ∧
    (ArgsValid (startedState 2 2 0 [7] []) ∧ inRead (startedState 2 2 0 [7] []) 0 = some 7 ∧
      (startedState 2 2 0 [7] []).argNextra.toNat ≤ (7 : Byte).toNat - 7) := by decide

theorem witness_MissingPreambleByteIsRefused :
    (Started (startedState 2 2 0 [] []) ∧ ArgsValid (startedState 2 2 0 [] []) ∧ inRead (startedState 2 2 0 [] []) 0 = none) ∧
    (inRead (startedState 2 2 0 [6, 0, 0, 0, 0, 0] []) 0 = some 6 ∧ Served 6 (startedState 2 2 0 [6, 0, 0, 0, 0, 0] []) ∧
      ∃ off < 7, inRead (startedState 2 2 0 [6, 0, 0, 0, 0, 0] []) off = none) := by decide

theorem witness_ErrorsComeBeforeOutput :
    (Started startP1 ∧ ∃ t, step startP1 = .next t) ∧ (Active runState ∧ ∃ t, step runState = .next t) :=
  ⟨⟨by decide, _, rfl⟩, by decide, _, rfl⟩

/-- A resting state with moves of the HOST pending. -/
def restState (h : List HostMove) : State := { State.reset with host := h }

theorem witness_StartWritesArgumentsOnly : AtRest (restState [.start ⟨4, 4, 0, 0, 0, 0⟩]) ∧
    (restState [.start ⟨4, 4, 0, 0, 0, 0⟩]).host = .start ⟨4, 4, 0, 0, 0, 0⟩ :: [] := by decide

theorem witness_OnlyTheHostMovesAtRest : AtRest State.reset ∧ State.reset.host = [] ∧
    AtRest (restState [.writeIn 0 7]) ∧ (restState [.writeIn 0 7]).host = .writeIn 0 7 :: [] ∧
    (restState [.writeXc 0 7]).host = .writeXc 0 7 :: [] ∧ (restState [.writeOut 0 7]).host = .writeOut 0 7 :: [] := by decide

theorem witness_HostHasNoMoveDuringDecode :
    (Active runState ∧ ∃ t, step runState = .next t) ∧ (Started startP1 ∧ ∃ t, step startP1 = .next t) ∧
    (Active { runState with nidx := 5 } ∧ step { runState with nidx := 5 } = .fault .noStep) ∧
    (Active nibbleState ∧ step nibbleState = .refused .inputTooShort) :=
  ⟨⟨by decide, _, rfl⟩, ⟨by decide, _, rfl⟩, ⟨by decide, rfl⟩, by decide, rfl⟩

theorem witness_TablesAreNeverWritten : ∃ t, step (restState [.writeOut 3 7]) = .next t := ⟨_, rfl⟩

theorem witness_DecoderNeverWritesItsInputs : (Active runState ∨ Started runState) ∧ ∃ t, step runState = .next t :=
  ⟨by decide, _, rfl⟩

theorem witness_CoefficientsAreConstantInBlock : Active { runState with nidx := 4 } ∧ ∃ t, step { runState with nidx := 4 } = .next t :=
  ⟨by decide, _, rfl⟩

theorem witness_NibbleIndexCountsNibbles :
    (Inv { runState with nidx := 3 } ∧ NibbleDue { runState with nidx := 3 } ∧ ∃ t, step { runState with nidx := 3 } = .next t) ∧
    (Inv startP1 ∧ ¬ NibbleDue startP1 ∧ ∃ t, step startP1 = .next t ∧ t.phase = .seed0) ∧
    (Inv { runState with nidx := 4 } ∧ ¬ NibbleDue { runState with nidx := 4 } ∧
      ∃ t, step { runState with nidx := 4 } = .next t ∧ t.phase ≠ .seed0) :=
  ⟨⟨lastState_inv.1, by decide, _, rfl⟩, ⟨startP1_inv, by decide, _, rfl, rfl⟩,
   ⟨lastState_inv.2, by decide, _, rfl, by decide⟩⟩

theorem witness_ResultsAreWrittenOnlyAtTheEnd :
    (∃ t, step { runState with nidx := 4 } = .next t ∧ ¬ SameResults { runState with nidx := 4 } t) ∧
    (∃ t, step (startedState 3 3 0 [] []) = .next t ∧ ¬ SameResults (startedState 3 3 0 [] []) t) :=
  ⟨⟨_, rfl, by unfold SameResults; decide⟩, ⟨_, rfl, by unfold SameResults; decide⟩⟩

theorem witness_OutputIsWrittenInOrder :
    (Inv { runState with phase := .seed0 } ∧ Active { runState with phase := .seed0 } ∧
      ∃ t, step { runState with phase := .seed0 } = .next t) ∧
    (Inv { runState with phase := .seed1 } ∧ ∃ t, step { runState with phase := .seed1 } = .next t) ∧
    (Inv { runState with nidx := 3 } ∧ ∃ t, step { runState with nidx := 3 } = .next t) :=
  ⟨⟨seedState_inv.1, by decide, _, rfl⟩, ⟨seedState_inv.2, _, rfl⟩, ⟨lastState_inv.1, _, rfl⟩⟩

theorem witness_DeltaStaysInRangeAfterNibble :
    (NibbleDue runState ∧ ∃ t, step runState = .next t) ∧ (Started startP1 ∧ ArgsValid startP1) :=
  ⟨⟨by decide, _, rfl⟩, by decide⟩

theorem witness_EveryStepKeepsInvariant : Inv startP1 ∧ ∃ t, step startP1 = .next t := ⟨startP1_inv, _, rfl⟩

/-- At rest with no HOST move left; an input cut off after the preamble; an index whose pair the extra table lacks. -/
theorem stopping_inv : Inv State.reset ∧ Inv { runState with inMem := runState.inMem.take 7 } ∧
    Inv (startedState 4 4 249 [0xFF, 0, 0, 0, 0, 0, 0, 0] []) :=
  ⟨{ memories := by decide, active := by decide, seeds := by decide, floor := by decide, done := by decide,
     fault := by decide },
   { memories := by decide, active := by decide, seeds := by decide, floor := by decide, done := by decide,
     fault := by decide },
   { memories := by decide, active := by decide, seeds := by decide, floor := by decide, done := by decide,
     fault := by decide }⟩

/-- Each disjunct: a next state, rest, and the two refusals. -/
theorem witness_InvariantStatesAreNeverStuck :
    (Inv runState ∧ ∃ t, step runState = .next t) ∧ (Inv startP1 ∧ ∃ t, step startP1 = .next t) ∧
    (Inv State.reset ∧ AtRest State.reset ∧ State.reset.host = [] ∧ step State.reset = .fault .resting) ∧
    (∃ s, Inv s ∧ Active s ∧ ¬ InputSupplied s ∧ step s = .refused .inputTooShort) ∧
    (∃ s, Inv s ∧ Started s ∧ ¬ ExtraSupplied s ∧ step s = .refused .extraTableTooShort) :=
  ⟨⟨runState_inv, _, rfl⟩, ⟨startP1_inv, _, rfl⟩, ⟨stopping_inv.1, by decide, rfl, rfl⟩,
   ⟨_, stopping_inv.2.1, by decide, by decide, rfl⟩,
   ⟨_, stopping_inv.2.2, by decide, fun h => absurd (h 0 (by decide)) (by decide), rfl⟩⟩

theorem witness_DecodeRunComputesDecodeBlock : Launchable startP1 ∧ Launchable startP4 := ⟨startP1_launchable, startP4_launchable⟩

theorem witness_FailingDecodeReportsDecodeBlockError :
    (Started (startedState 4 4 0 [7] []) ∧ (inRead (startedState 4 4 0 [7] []) 0).isSome = true ∧
      blockOf (startedState 4 4 0 [7] []) = .error .malformedPreamble) ∧
    (Started (startedState 5 4 0 [] []) ∧ ¬ ArgsValid (startedState 5 4 0 [] []) ∧
      blockOf (startedState 5 4 0 [] []) = .error .invalidSampleCount) ∧
    (blockOf (startedState 4 3 0 [] []) = .error .bufferTooSmall) :=
  ⟨⟨by decide, by decide, rfl⟩, ⟨by decide, by decide, rfl⟩, rfl⟩

/-- `startP4` with every other register, OUT and the resting phase different. -/
def startP4' : State :=
  { startP4 with phase := .done, delta := 5, cur := -7, coefA := 3, predictor := 9, nidx := 6, status := .bufferTooSmall,
                 outProduced := 8, outMem := [(0, 0x7FC00001)], host := [.writeIn 0 0] }

theorem witness_DecodeDependsOnItsInputsAlone : Launchable startP4 ∧ Started startP4' ∧
    startP4'.argCount = startP4.argCount ∧ startP4'.argCap = startP4.argCap ∧ startP4'.argNextra = startP4.argNextra ∧
    startP4'.stdCoef = startP4.stdCoef ∧ startP4'.adapt = startP4.adapt ∧
    (∀ off < blockBytes startP4, inRead startP4' off = inRead startP4 off) ∧
    (∀ e < 2 * startP4.argNextra.toNat, xcRead startP4' e = xcRead startP4 e) ∧ startP4' ≠ startP4 :=
  ⟨startP4_launchable, by decide, rfl, rfl, rfl, rfl, rfl, fun _ _ => rfl, fun _ _ => rfl, by decide⟩

theorem witness_SmallerCountDecodesPrefix : (2 : Int) ≤ 2 ∧ (2 : Int) % 2 = 0 ∧ (2 : Int) ≤ 4 ∧
    ∃ out c p, decodeBlock Config.stdCoef Config.adapt 4 4 0 (inFun startP1) (xcFun startP1) = .ok (out, c, p) :=
  ⟨by decide, by decide, by decide, _, _, _, rfl⟩

theorem witness_LaterNibblesChangeNoEarlierSample :
    (∀ off < 7, inFun { startP1 with inMem := Memory.write startP1.inMem 7 0x0F } off = inFun startP1 off) ∧
    (∀ m ≤ 0, nibbleOf (inFun { startP1 with inMem := Memory.write startP1.inMem 7 0x0F } (7 + m / 2)) m =
      nibbleOf (inFun startP1 (7 + m / 2)) m) ∧
    (∃ out c p, decodeBlock Config.stdCoef Config.adapt 4 4 0 (inFun startP1) (xcFun startP1) = .ok (out, c, p)) ∧
    (∃ out c p, decodeBlock Config.stdCoef Config.adapt 4 4 0
      (inFun { startP1 with inMem := Memory.write startP1.inMem 7 0x0F }) (xcFun startP1) = .ok (out, c, p)) :=
  ⟨by decide, by decide, ⟨_, _, _, rfl⟩, _, _, _, rfl⟩

theorem witness_DecodeFinishesInCountedSteps : (Inv runState ∧ Active runState ∧ InputSupplied runState) ∧
    (Inv { runState with phase := .seed0 } ∧ Active { runState with phase := .seed0 } ∧
      InputSupplied { runState with phase := .seed0 }) ∧ (Inv { runState with nidx := 4 } ∧ Active { runState with nidx := 4 }) :=
  ⟨⟨runState_inv, by decide, by decide⟩, ⟨seedState_inv.1, by decide, by decide⟩, lastState_inv.2, by decide⟩

theorem witness_DecodeStaysInItsOutputRegion : Inv startP1 ∧ (Active startP1 ∨ Started startP1) ∧ startP1.host = [] ∧
    ∃ t, Sys2Proof.core.run 3 startP1 = .next t := ⟨startP1_inv, by decide, rfl, _, rfl⟩

end Sys2Proof.Tests
end

section
/-! What one step does to the state (spec/10_state.md): one inversion of `step` in the words of Safety.lean, and from it the invariant and the rules about the registers. -/

namespace Sys2Proof.Proofs

open Sys2Proof.Machine Sys2Proof.Claims

/-! ### What a step can be -/

/-- The seven forms of a step (R29, R150), each with what it needs. -/
inductive StepTo (s : State) : State → Prop where
  | seed0 (phase : s.phase = .seed0) : StepTo s (seed0 s)
  | seed1 (phase : s.phase = .seed1) : StepTo s (seed1 s)
  | nibble (n : Nibble) (due : NibbleDue s) (fetched : fetchNibble s = some n) : StepTo s
      (shift (computeSample n s.cur s.prev s.coefA s.coefB s.delta) (computeDelta s.adapt n s.delta) s)
  | finish (phase : s.phase = .run) (last : (s.nidx.toNat : Int) = s.argCount.toInt - 2) : StepTo s (finish s)
  | raise (e : BlockError) (started : Started s) : StepTo s (raise e s)
  | latch (p : Byte) (d c q : S16) (pair : CoefPair) (started : Started s) (valid : ArgsValid s) (served : Served p s)
      (resolved : resolveCoef p s = some pair) : StepTo s (latch p d c q pair s)
  | host (m : HostMove) (rest : List HostMove) (atRest : AtRest s) (pending : s.host = m :: rest) :
      StepTo s (hostMove m { s with host := rest })

theorem atRest_iff (s : State) : AtRest s ↔ resting s.phase = true ∧ s.startPending = false := by
  unfold AtRest
  cases s.phase <;> simp [resting]

theorem stepTo_of_checkStep {s t : State} (hs : Started s) (h : checkStep s = .next t) : StepTo s t := by
  obtain ⟨e, -, rfl⟩ | ⟨ha, p, -, ⟨-, rfl⟩ | ⟨hu, d, c, q, pair, hr, rfl⟩⟩ := checkStep_next h
  · exact .raise e hs
  · exact .raise .malformedPreamble hs
  · exact .latch p d c q pair hs ((argError_none_iff s).1 ha) ((unserved_iff p s).1 hu) hr

theorem stepTo_of_step {s t : State} (h : step s = .next t) : StepTo s t := by
  obtain ⟨hp, rfl⟩ | ⟨hp, rfl⟩ | ⟨hd, n, hn, rfl⟩ | ⟨-, hf, rfl⟩ | ⟨hc, h⟩ | ⟨hr, hq, m, rest, hm, rfl⟩ := step_next h
  · exact .seed0 hp
  · exact .seed1 hp
  · exact .nibble n ((nibbleDue_iff s).1 hd) hn
  · obtain ⟨hp, hl⟩ := (finishDue_iff s).1 hf
    exact .finish hp hl
  · exact stepTo_of_checkStep ((started_iff s).1 hc) h
  · exact .host m rest ((atRest_iff s).2 ⟨hr, hq⟩) hm

/-- The resting phases and those of a decode exclude each other (R29). -/
theorem not_active_of_resting {s : State} (h : s.phase = .idle ∨ s.phase = .done ∨ s.phase = .fault) : ¬ Active s := by
  obtain h | h | h := h <;> simp [Active, h]

/-! ### What a HOST move leaves unchanged -/

section HostMove
variable (m : HostMove) (s : State)

@[simp] theorem hostMove_delta : (hostMove m s).delta = s.delta := by cases m <;> rfl
@[simp] theorem hostMove_nidx : (hostMove m s).nidx = s.nidx := by cases m <;> rfl
@[simp] theorem hostMove_phase : (hostMove m s).phase = s.phase := by cases m <;> rfl
@[simp] theorem hostMove_status : (hostMove m s).status = s.status := by cases m <;> rfl
@[simp] theorem hostMove_inConsumed : (hostMove m s).inConsumed = s.inConsumed := by cases m <;> rfl
@[simp] theorem hostMove_outProduced : (hostMove m s).outProduced = s.outProduced := by cases m <;> rfl
@[simp] theorem hostMove_stdCoef : (hostMove m s).stdCoef = s.stdCoef := by cases m <;> rfl
@[simp] theorem hostMove_adapt : (hostMove m s).adapt = s.adapt := by cases m <;> rfl

/-- Only a START touches the arguments, and it makes CHECK due. -/
theorem hostMove_args_of_not_pending (h : (hostMove m s).startPending = false) :
    (hostMove m s).argCount = s.argCount ∧ (hostMove m s).argCap = s.argCap := by
  cases m with
  | start l => simp [hostMove] at h
  | writeIn a b => exact ⟨rfl, rfl⟩
  | writeXc a v => exact ⟨rfl, rfl⟩
  | writeOut a f => exact ⟨rfl, rfl⟩

theorem hostMove_memoriesWf (h : MemoriesWf s) : MemoriesWf (hostMove m s) := by
  obtain ⟨hin, hxc, hout⟩ := h
  cases m with
  | start l => exact ⟨hin, hxc, hout⟩
  | writeIn a b => exact ⟨Memory.wf_write _ a b hin, hxc, hout⟩
  | writeXc a v => exact ⟨hin, Memory.wf_write _ a v hxc, hout⟩
  | writeOut a f => exact ⟨hin, hxc, Memory.wf_write _ a f hout⟩

end HostMove

/-! ### The invariant -/

/-- R116: what the narrowing of the adapted delta leaves, for any table. -/
theorem computeDelta_bounds (adapt : Vector S16 Config.adaptCount) (n : Nibble) (d : S16) :
    16 ≤ (computeDelta adapt n d).toInt ∧ (computeDelta adapt n d).toInt ≤ 32767 := by
  rw [computeDelta, clampDelta_toInt, saturate_eq_max_min (by decide)]
  omega

theorem blockError_status_ne_ok (e : BlockError) : e.status ≠ .ok := by
  cases e <;> decide

theorem outWrite_memoriesWf {s : State} (i : Nat) (f : F32) (h : MemoriesWf s) : MemoriesWf (outWrite i f s) :=
  have ⟨hin, hxc, hout⟩ := h
  ⟨hin, hxc, Memory.wf_write _ _ f hout⟩

/-- The consumed cursor of R169 fits its register. -/
theorem consumed_toNat {s : State} (h : ArgsValid s) :
    ((BitVec.ofInt 32 (7 + (s.argCount.toInt - 2) / 2)).toNat : Int) = 7 + (s.argCount.toInt - 2) / 2 := by
  have hlo := h.1
  have hhi := BitVec.toInt_lt (x := s.argCount)
  simp only [Nat.add_one_sub_one, Int.reducePow] at hhi
  rw [BitVec.toNat_ofInt]
  omega

/-- Inside a decode the clauses about DONE and FAULT ask nothing. -/
theorem inv_of_active {s : State} (memories : MemoriesWf s) (ha : Active s)
    (active : s.startPending = false ∧ ArgsValid s ∧ (s.nidx.toNat : Int) ≤ s.argCount.toInt - 2 ∧
      Served s.predictor s ∧ resolveCoef s.predictor s = some ⟨s.coefA, s.coefB⟩)
    (seeds : s.phase = .seed0 ∨ s.phase = .seed1 → s.nidx = 0)
    (floor : s.phase = .run → 0 < s.nidx.toNat → 16 ≤ s.delta.toInt) : Inv s where
  memories := memories
  active _ := active
  seeds := seeds
  floor := floor
  done hp := absurd ha (not_active_of_resting (.inr (.inl hp)))
  fault hp := absurd ha (not_active_of_resting (.inr (.inr hp)))

theorem inv_seed0 {s : State} (h : Inv s) (hp : s.phase = .seed0) : Inv (seed0 s) :=
  inv_of_active (outWrite_memoriesWf 0 _ h.memories) (.inr (.inl rfl)) (h.active (.inl hp))
    (fun _ => h.seeds (.inl hp)) (by simp)

theorem inv_seed1 {s : State} (h : Inv s) (hp : s.phase = .seed1) : Inv (seed1 s) :=
  inv_of_active (outWrite_memoriesWf 1 _ h.memories) (.inr (.inr rfl)) (h.active (.inr (.inl hp)))
    (by simp) (by simp [h.seeds (.inr hp)])

theorem inv_shift_computeDelta {s : State} (h : Inv s) (hd : NibbleDue s) (x : S16) (n : Nibble) :
    Inv (shift x (computeDelta s.adapt n s.delta) s) := by
  have hrun : Active s := .inr (.inr hd.1)
  obtain ⟨hq, hargs, -, hserved, hpair⟩ := h.active hrun
  have hle : ((s.nidx + 1).toNat : Int) ≤ s.argCount.toInt - 2 := by
    have := hd.2
    rw [nidx_succ hd]
    omega
  exact inv_of_active (outWrite_memoriesWf _ _ h.memories) hrun ⟨hq, hargs, hle, hserved, hpair⟩
    (by simp [hd.1]) (fun _ _ => (computeDelta_bounds s.adapt n s.delta).1)

theorem inv_finish {s : State} (h : Inv s) (hp : s.phase = .run) : Inv (finish s) where
  memories := h.memories
  active ha := absurd ha (not_active_of_resting (.inr (.inl rfl)))
  seeds := by simp
  floor := by simp
  done _ :=
    have hargs := (h.active (.inr (.inr hp))).2.1
    ⟨rfl, fun _ => ⟨hargs, rfl, consumed_toNat hargs⟩⟩
  fault := by simp

theorem inv_raise {s : State} (h : Inv s) (e : BlockError) : Inv (raise e s) where
  memories := h.memories
  active ha := absurd ha (not_active_of_resting (.inr (.inr rfl)))
  seeds := by simp
  floor := by simp
  done := by simp
  fault _ := ⟨blockError_status_ne_ok e, rfl, rfl⟩

theorem inv_latch {s : State} (h : Inv s) (hargs : ArgsValid s) {p : Byte} (hserved : Served p s) {pair : CoefPair}
    (hpair : resolveCoef p s = some pair) (d c q : S16) : Inv (latch p d c q pair s) := by
  have hle : ((0#32).toNat : Int) ≤ s.argCount.toInt - 2 := by
    have := hargs.1
    simpa using this
  exact inv_of_active h.memories (.inl rfl) ⟨rfl, hargs, hle, hserved, hpair⟩ (fun _ => rfl) (by simp)

theorem inv_hostMove {s : State} (h : Inv s) (hr : AtRest s) (m : HostMove) (rest : List HostMove) :
    Inv (hostMove m { s with host := rest }) where
  memories := hostMove_memoriesWf m _ h.memories
  active ha := absurd ha (not_active_of_resting (by simpa using hr.1))
  seeds := by simpa using h.seeds
  floor := by simpa using h.floor
  done hp := by
    obtain ⟨hstatus, hcursors⟩ := h.done (by simpa using hp)
    refine ⟨by simpa using hstatus, fun hq => ?_⟩
    obtain ⟨hargs, hout, hin⟩ := hcursors hr.2
    obtain ⟨hcount, hcap⟩ := hostMove_args_of_not_pending m _ hq
    simp only [ArgsValid, hcount, hcap, hostMove_outProduced, hostMove_inConsumed]
    exact ⟨hargs, hout, hin⟩
  fault := by simpa using h.fault

/-- Settles O47: each of the seven forms of a step keeps the invariant. -/
theorem everyStepKeepsInvariant : Obligations.EveryStepKeepsInvariant := by
  intro s t h hstep
  cases stepTo_of_step hstep with
  | seed0 hp => exact inv_seed0 h hp
  | seed1 hp => exact inv_seed1 h hp
  | nibble n due _ => exact inv_shift_computeDelta h due _ n
  | finish hp _ => exact inv_finish h hp
  | raise e _ => exact inv_raise h e
  | latch p d c q pair _ valid served resolved => exact inv_latch h valid served resolved d c q
  | host m rest atRest _ => exact inv_hostMove h atRest m rest

/-! ### The registers -/

/-- Settles O39: no form of a step has the tables among its writes. -/
theorem tablesAreNeverWritten : Obligations.TablesAreNeverWritten := by
  intro s t hstep
  cases stepTo_of_step hstep with
  | host m rest _ _ => simp
  | _ => exact ⟨rfl, rfl⟩

/-- Settles O41: the steps that write the coefficients and PREDICTOR start in a resting phase. -/
theorem coefficientsAreConstantInBlock : Obligations.CoefficientsAreConstantInBlock := by
  intro s t ha hstep
  cases stepTo_of_step hstep with
  | seed0 _ => exact ⟨rfl, rfl, rfl⟩
  | seed1 _ => exact ⟨rfl, rfl, rfl⟩
  | nibble _ _ _ => exact ⟨rfl, rfl, rfl⟩
  | finish _ _ => exact ⟨rfl, rfl, rfl⟩
  | raise _ started => exact absurd ha (not_active_of_resting started.1)
  | latch _ _ _ _ _ started _ _ _ => exact absurd ha (not_active_of_resting started.1)
  | host _ _ atRest _ => exact absurd ha (not_active_of_resting atRest.1)

/-- A due nibble is decoded by the next step, and by no other form of it. -/
theorem step_eq_shift_of_nibbleDue {s t : State} (hd : NibbleDue s) (hstep : step s = .next t) :
    ∃ n, t = shift (computeSample n s.cur s.prev s.coefA s.coefB s.delta) (computeDelta s.adapt n s.delta) s := by
  have ha : Active s := .inr (.inr hd.1)
  cases stepTo_of_step hstep with
  | seed0 hp => simp [hd.1] at hp
  | seed1 hp => simp [hd.1] at hp
  | nibble n _ _ => exact ⟨n, rfl⟩
  | finish _ last => exact absurd hd.2 (by omega)
  | raise _ started => exact absurd ha (not_active_of_resting started.1)
  | latch _ _ _ _ _ started _ _ _ => exact absurd ha (not_active_of_resting started.1)
  | host _ _ atRest _ => exact absurd ha (not_active_of_resting atRest.1)

/-- NIDX under a step that is no NIB step: LATCH, which alone ends in SEED0, clears it, and the others keep it. -/
theorem nidx_of_not_nibbleDue {s t : State} (hd : ¬ NibbleDue s) (hstep : step s = .next t) :
    t.nidx = if t.phase = .seed0 then 0 else s.nidx := by
  cases stepTo_of_step hstep with
  | seed0 _ => simp
  | seed1 _ => simp
  | nibble _ due _ => exact absurd due hd
  | finish _ _ => simp
  | raise _ _ => simp
  | latch _ _ _ _ _ _ _ _ _ => simp
  | host m rest atRest _ =>
    have hp : s.phase ≠ .seed0 := fun hp => not_active_of_resting atRest.1 (.inl hp)
    simp [hp]

/-- Settles O42: a NIB step adds 1 below ARG_COUNT - 2, so it does not wrap. -/
theorem nibbleIndexCountsNibbles : Obligations.NibbleIndexCountsNibbles := by
  intro s t _ hstep
  refine ⟨fun hd => ?_, fun hd hp => ?_, fun hd hp => ?_⟩
  · obtain ⟨n, rfl⟩ := step_eq_shift_of_nibbleDue hd hstep
    have hsucc := nidx_succ hd
    have hlt := hd.2
    simp only [shift_nidx, shift_argCount]
    omega
  · simpa [hp] using nidx_of_not_nibbleDue hd hstep
  · simpa [hp] using nidx_of_not_nibbleDue hd hstep

/-- Settles O43: FINISH and a raised error are the forms of a step that write the results. -/
theorem resultsAreWrittenOnlyAtTheEnd : Obligations.ResultsAreWrittenOnlyAtTheEnd := by
  intro s t hstep hne
  cases stepTo_of_step hstep with
  | finish hp _ => exact .inl ⟨hp, rfl, rfl⟩
  | raise e started => exact .inr ⟨started, rfl, blockError_status_ne_ok e⟩
  | host m rest _ _ => exact absurd (by simp [SameResults]) hne
  | _ => exact absurd ⟨rfl, rfl, rfl⟩ hne

/-- Settles O45: the clamp of R116 bounds DELTA after a NIB step, and PRE.S0 latches the delta it is given. -/
theorem deltaStaysInRangeAfterNibble : Obligations.DeltaStaysInRangeAfterNibble := by
  refine ⟨fun s t hd hstep => ?_, fun s d c q hs hargs => ?_⟩
  · obtain ⟨n, rfl⟩ := step_eq_shift_of_nibbleDue hd hstep
    exact computeDelta_bounds s.adapt n s.delta
  · have hcheck : checkError 0 s = none := (checkError_none_iff 0 s).2 ⟨hargs, .inl (by decide)⟩
    exact ⟨_, preamble_latch d c q ((started_iff s).2 hs) hcheck rfl, rfl⟩

/-! ### At rest -/

/-- At rest the step is the HOST's next move. -/
theorem step_of_atRest {s : State} (h : AtRest s) :
    (s.host = [] → step s = .fault .resting) ∧
      ∀ m rest, s.host = m :: rest → step s = .next (hostMove m { s with host := rest }) := by
  obtain ⟨hp | hp | hp, hq⟩ := h <;> simp +contextual [step, hp, restStep, hq]

/-- Settles O37: a store is the HOST's move at the head of its list. -/
theorem onlyTheHostMovesAtRest : Obligations.OnlyTheHostMovesAtRest := by
  intro s h
  obtain ⟨hstop, hmove⟩ := step_of_atRest h
  exact ⟨hstop, fun _ _ _ => hmove _ _, fun _ _ _ => hmove _ _, fun _ _ _ => hmove _ _⟩

end Sys2Proof.Proofs
end

section
/-! The HOST's pending moves during a decode (R29, R222, R238): a step commutes with replacing them. -/

namespace Sys2Proof.Proofs

open Sys2Proof.Machine Sys2Proof.Claims

/-- The state with other pending moves. -/
def withHost (h : List HostMove) (s : State) : State := { s with host := h }

/-- An answer with `f` applied to its next state. -/
def mapNext (f : State → State) : Answer → Answer
  | .next t => .next (f t)
  | .fault r => .fault r
  | .refused r => .refused r

@[simp] theorem mapNext_next (f : State → State) (t : State) : mapNext f (.next t) = .next (f t) := rfl
@[simp] theorem mapNext_fault (f : State → State) (r : Fault) : mapNext f (.fault r) = .fault r := rfl
@[simp] theorem mapNext_refused (f : State → State) (r : Refusal) : mapNext f (.refused r) = .refused r := rfl

section Reads
variable (h : List HostMove) (s : State)

@[simp] theorem withHost_host_self : withHost s.host s = s := rfl
@[simp] theorem withHost_phase : (withHost h s).phase = s.phase := rfl
@[simp] theorem checking_withHost : checking (withHost h s) = checking s := rfl
@[simp] theorem argError_withHost : argError (withHost h s) = argError s := rfl
@[simp] theorem unserved_withHost (p : Byte) : unserved p (withHost h s) = unserved p s := rfl
@[simp] theorem checkError_withHost (p : Byte) : checkError p (withHost h s) = checkError p s := rfl
@[simp] theorem resolveCoef_withHost (p : Byte) : resolveCoef p (withHost h s) = resolveCoef p s := rfl
@[simp] theorem inRead_withHost (off : Nat) : inRead (withHost h s) off = inRead s off := rfl
@[simp] theorem fetchPreamble_withHost : fetchPreamble (withHost h s) = fetchPreamble s := rfl
@[simp] theorem nibbleDue_withHost : nibbleDue (withHost h s) = nibbleDue s := rfl
@[simp] theorem finishDue_withHost : finishDue (withHost h s) = finishDue s := rfl
@[simp] theorem fetchNibble_withHost : fetchNibble (withHost h s) = fetchNibble s := rfl
@[simp] theorem raise_withHost (e : BlockError) : raise e (withHost h s) = withHost h (raise e s) := rfl
@[simp] theorem latch_withHost (p : Byte) (d c q : S16) (pair : CoefPair) :
    latch p d c q pair (withHost h s) = withHost h (latch p d c q pair s) := rfl
@[simp] theorem seed0_withHost : seed0 (withHost h s) = withHost h (seed0 s) := rfl
@[simp] theorem seed1_withHost : seed1 (withHost h s) = withHost h (seed1 s) := rfl
@[simp] theorem finish_withHost : finish (withHost h s) = withHost h (finish s) := rfl

theorem preamble_withHost (p : Byte) (d c q : S16) :
    preamble p d c q (withHost h s) = mapNext (withHost h) (preamble p d c q s) := by
  by_cases hc : checking s
  · cases he : checkError p s with
    | some e => simp [preamble, hc, he]
    | none => cases hp : resolveCoef p s <;> simp [preamble, hc, he, hp]
  · simp [preamble, hc]

theorem nibble_withHost (n : Nibble) : nibble n (withHost h s) = mapNext (withHost h) (nibble n s) := by
  by_cases hd : nibbleDue s
  · simp only [nibble, nibbleDue_withHost, hd, if_true]
    rfl
  · simp [nibble, hd]

theorem checkStep_withHost : checkStep (withHost h s) = mapNext (withHost h) (checkStep s) := by
  cases ha : argError s with
  | some e => simp [checkStep, ha]
  | none =>
    cases hp : inRead s 0 with
    | none => simp [checkStep, ha, hp]
    | some p =>
      by_cases hu : unserved p s
      · simp [checkStep, ha, hp, hu]
      · cases hi : fetchPreamble s with
        | none => simp [checkStep, ha, hp, hu, hi]
        | some i =>
          obtain ⟨b0, b1, b2, b3, b4, b5, b6, -, -, -, -, -, -, -, rfl⟩ := fetchPreamble_some hi
          simp [checkStep, ha, hp, hu, hi, exec_decodePreamble, preamble_withHost]

theorem runStep_withHost : runStep (withHost h s) = mapNext (withHost h) (runStep s) := by
  by_cases hd : nibbleDue s
  · cases hn : fetchNibble s <;> simp [runStep, hd, hn, exec_decodeNibble, nibble_withHost]
  · by_cases hf : finishDue s
    · simp [runStep, hd, hf]
    · simp [runStep, hd, hf]

end Reads

/-- Between a START and the next resting phase the step commutes with replacing the pending moves. -/
theorem step_withHost (h : List HostMove) {s : State} (hs : Active s ∨ Started s) :
    step (withHost h s) = mapNext (withHost h) (step s) := by
  obtain (hp | hp | hp) | hstart := hs
  · simp [step, hp]
  · simp [step, hp]
  · simp [step, hp, runStep_withHost]
  · have hstart' : Started (withHost h s) := hstart
    rw [step_of_started hstart', step_of_started hstart, checkStep_withHost]

/-- Settles O38: the step commutes with replacing the pending moves; replacing them by themselves, it keeps them. -/
theorem hostHasNoMoveDuringDecode : Obligations.HostHasNoMoveDuringDecode := by
  intro s h hs
  have hswap : step { s with host := h } = mapNext (withHost h) (step s) := step_withHost h hs
  refine ⟨fun t ht => ⟨?_, ?_⟩, fun r hr => ?_, fun r hr => ?_⟩
  · have hself := step_withHost s.host hs
    rw [withHost_host_self, ht] at hself
    injection hself with hself
    rw [hself, withHost]
  · rw [hswap, ht]
    rfl
  · rw [hswap, hr]
    rfl
  · rw [hswap, hr]
    rfl

end Sys2Proof.Proofs
end

section
/-! Two decodes with equal inputs (R41, R42, R212): from LATCH on they are in lockstep, and what they write is equal. -/

namespace Sys2Proof.Proofs

open Sys2Proof.Machine Sys2Proof.Claims

/-! ### The steps of a decode, as next states -/

theorem step_of_seed0 {s : State} (hp : s.phase = .seed0) : step s = .next (seed0 s) := by simp [step, hp]

theorem step_of_seed1 {s : State} (hp : s.phase = .seed1) : step s = .next (seed1 s) := by simp [step, hp]

theorem step_of_fetchNibble {s : State} {n : Nibble} (hd : NibbleDue s) (hn : fetchNibble s = some n) :
    step s = .next
      (shift (computeSample n s.cur s.prev s.coefA s.coefB s.delta) (computeDelta s.adapt n s.delta) s) := by
  have hdue := (nibbleDue_iff s).2 hd
  simp [step, hd.1, runStep, hdue, hn, exec_decodeNibble, nibble]

theorem step_of_finishDue {s : State} (hp : s.phase = .run) (hl : (s.nidx.toNat : Int) = s.argCount.toInt - 2) :
    step s = .next (finish s) := by
  have hdue : nibbleDue s = false := by simp [nibbleDue, hl]
  have hfin := (finishDue_iff s).2 ⟨hp, hl⟩
  simp [step, hp, runStep, hdue, hfin]

/-- A served predictor index has its pair, once the HOST's duty about XC is met (R154, R237). -/
theorem resolveCoef_of_served {p : Byte} {s : State} (hx : ExtraSupplied s) (hp : Served p s) :
    ∃ pair, resolveCoef p s = some pair := by
  by_cases hstd : p.toNat < Config.stdCount
  · exact ⟨_, by rw [resolveCoef, dif_pos hstd]⟩
  · have hlt : p.toNat < 256 := p.isLt
    have hextra : p.toNat - 7 < s.argNextra.toNat := hp.resolve_left hstd
    obtain ⟨a, ha⟩ := Option.isSome_iff_exists.1 (hx (2 * (p.toNat - 7)) (by omega))
    obtain ⟨b, hb⟩ := Option.isSome_iff_exists.1 (hx (2 * (p.toNat - 7) + 1) (by omega))
    exact ⟨⟨a, b⟩, by simp [resolveCoef, hstd, extraPair, ha, hb]⟩

theorem inRead_eq_inFun {s : State} {off : Nat} (h : (inRead s off).isSome = true) :
    inRead s off = some (inFun s off) := by
  obtain ⟨b, hb⟩ := Option.isSome_iff_exists.1 h
  simp [inFun, hb]

/-- LATCH with the operands that the bytes of IN hold (R85, R153). -/
def latchIn (inp : Nat → Byte) (pair : CoefPair) (s : State) : State :=
  latch (inp 0) (le16 (inp 1) (inp 2)) (le16 (inp 3) (inp 4)) (le16 (inp 5) (inp 6)) pair s

/-- The step of a launch that meets every duty is LATCH. -/
theorem step_of_launchable {s : State} (h : Launchable s) :
    ∃ pair, resolveCoef (inFun s 0) s = some pair ∧ step s = .next (latchIn (inFun s) pair s) := by
  obtain ⟨hs, hargs, hin, hxc, hp⟩ := h
  have hbyte : ∀ off < 7, inRead s off = some (inFun s off) := fun off hoff =>
    inRead_eq_inFun (hin off (by unfold blockBytes; omega))
  obtain ⟨pair, hpair⟩ := resolveCoef_of_served hxc hp
  refine ⟨pair, hpair, ?_⟩
  have hfetch := fetchPreamble_of_bytes (hbyte 0 (by decide)) (hbyte 1 (by decide)) (hbyte 2 (by decide))
    (hbyte 3 (by decide)) (hbyte 4 (by decide)) (hbyte 5 (by decide)) (hbyte 6 (by decide))
  have hlatch := preamble_latch (le16 (inFun s 1) (inFun s 2)) (le16 (inFun s 3) (inFun s 4))
    (le16 (inFun s 5) (inFun s 6)) ((started_iff s).2 hs) ((checkError_none_iff _ s).2 ⟨hargs, hp⟩) hpair
  have hargError := (argError_none_iff s).2 hargs
  have hserved := (unserved_iff _ s).2 hp
  rw [step_of_started hs]
  simp [checkStep, hargError, hbyte 0, hserved, hfetch, exec_decodePreamble, hlatch, latchIn]

/-! ### Reading OUT after a write -/

theorem outRead_outWrite_same (i : Nat) (f : F32) (s : State) : outRead (outWrite i f s) i = some f :=
  Memory.read_write_same _ _ f

theorem outRead_outWrite_other {i j : Nat} (f : F32) (s : State) (h : j ≠ i) :
    outRead (outWrite i f s) j = outRead s j :=
  Memory.read_write_other _ f (by simpa using h)

/-- The first `n` elements of OUT are there and equal. -/
def SameOut (n : Nat) (s r : State) : Prop := ∀ i < n, outRead s i = outRead r i ∧ (outRead s i).isSome = true

theorem sameOut_outWrite {n : Nat} {s r : State} (h : SameOut n s r) (f : F32) :
    SameOut (n + 1) (outWrite n f s) (outWrite n f r) := by
  intro i hi
  obtain rfl | hne := eq_or_ne i n
  · simp [outRead_outWrite_same]
  · rw [outRead_outWrite_other f s hne, outRead_outWrite_other f r hne]
    exact h i (by omega)

/-! ### Two decodes in lockstep -/

/-- How many elements of OUT the decode has written (R62). -/
def written (s : State) : Nat :=
  match s.phase with
  | .seed0 => 0
  | .seed1 => 1
  | _ => 2 + s.nidx.toNat

/-- Two states at the same point of a decode with the same inputs: what DEC reads from here on is equal, and so is what it has written. -/
structure Lockstep (s r : State) : Prop where
  phase : r.phase = s.phase
  working : SameWorking s r
  adapt : r.adapt = s.adapt
  count : r.argCount = s.argCount
  args : ArgsValid s
  supplied : InputSupplied s
  input : ∀ off < blockBytes s, inRead r off = inRead s off
  output : SameOut (written s) s r

theorem lockstep_seed0 {s r : State} (h : Lockstep s r) (hp : s.phase = .seed0) : Lockstep (seed0 s) (seed0 r) := by
  obtain ⟨-, hwork, hadapt, hcount, hargs, hsup, hin, hout⟩ := h
  have ⟨_, _, hprev, _⟩ := hwork
  refine ⟨rfl, hwork, hadapt, hcount, hargs, hsup, hin, ?_⟩
  have hnext := sameOut_outWrite hout (normalizeToFloat s.prev)
  simp only [written, hp] at hnext
  rw [seed0, seed0, hprev]
  exact hnext

theorem lockstep_seed1 {s r : State} (h : Lockstep s r) (hp : s.phase = .seed1) (hn : s.nidx = 0) :
    Lockstep (seed1 s) (seed1 r) := by
  obtain ⟨-, hwork, hadapt, hcount, hargs, hsup, hin, hout⟩ := h
  have ⟨_, hcur, _⟩ := hwork
  refine ⟨rfl, hwork, hadapt, hcount, hargs, hsup, hin, ?_⟩
  have hnext := sameOut_outWrite hout (normalizeToFloat s.cur)
  simp only [written, hp] at hnext
  simp only [written, seed1_phase, seed1_nidx, hn]
  rw [seed1, seed1, hcur]
  exact hnext

theorem lockstep_shift {s r : State} (h : Lockstep s r) (hd : NibbleDue s) (x d2 : S16) :
    Lockstep (shift x d2 s) (shift x d2 r) := by
  obtain ⟨hphase, ⟨-, hcur, -, hA, hB, hpred, hnidx⟩, hadapt, hcount, hargs, hsup, hin, hout⟩ := h
  refine ⟨hphase, ⟨rfl, rfl, hcur, hA, hB, hpred, ?_⟩, hadapt, hcount, hargs, hsup, hin, ?_⟩
  · simp [hnidx]
  · have hnext := sameOut_outWrite hout (normalizeToFloat x)
    simp only [written, hd.1] at hnext
    simp only [written, shift_phase, hd.1, shift_nidx, nidx_succ hd]
    rw [shift, shift, hnidx]
    exact hnext

/-- In lockstep both states take the same NIB step. -/
theorem step_lockstep_nibbleDue {s r : State} (h : Lockstep s r) (hd : NibbleDue s) :
    ∃ x d2, step s = .next (shift x d2 s) ∧ step r = .next (shift x d2 r) := by
  obtain ⟨hphase, ⟨hdelta, hcur, hprev, hA, hB, -, hnidx⟩, hadapt, hcount, hargs, hsup, hin, -⟩ := h
  have hoff : pairOffset s.nidx.toNat < blockBytes s := by
    have hlt := hd.2
    obtain ⟨-, heven, -⟩ := hargs
    simp only [pairOffset, blockBytes, Config.preBytes]
    omega
  obtain ⟨b, hb⟩ := Option.isSome_iff_exists.1 (hsup _ hoff)
  have hs : fetchNibble s = some (nibbleOf b s.nidx.toNat) := by simp [fetchNibble, hb]
  have hr : fetchNibble r = some (nibbleOf b s.nidx.toNat) := by simp [fetchNibble, hnidx, hin _ hoff, hb]
  have hdr : NibbleDue r := by simpa only [NibbleDue, hphase, hnidx, hcount] using hd
  refine ⟨_, _, step_of_fetchNibble hd hs, ?_⟩
  rw [step_of_fetchNibble hdr hr, hcur, hprev, hA, hB, hdelta, hadapt]

/-! ### To the end of the block -/

/-- Two runs of `k` steps reach DONE with equal results and equal outputs. -/
def EndAlike (k : Nat) (count : Int) (s r : State) : Prop :=
  ∃ t u : State, Sys2Proof.core.run k s = .next t ∧ Sys2Proof.core.run k r = .next u ∧ t.phase = .done ∧
    u.phase = .done ∧ SameResults t u ∧
    ∀ i : Nat, (i : Int) < count → outRead t i = outRead u i ∧ (outRead t i).isSome = true

theorem endAlike_succ {k : Nat} {count : Int} {s s' r r' : State} (hs : step s = .next s') (hr : step r = .next r')
    (h : EndAlike k count s' r') : EndAlike (k + 1) count s r := by
  unfold EndAlike at h ⊢
  rwa [run_next k hs, run_next k hr]

theorem endAlike_finish {s r : State} (h : Lockstep s r) (hp : s.phase = .run)
    (hl : (s.nidx.toNat : Int) = s.argCount.toInt - 2) : EndAlike 1 s.argCount.toInt s r := by
  obtain ⟨hphase, ⟨-, -, -, -, -, -, hnidx⟩, -, hcount, -, -, -, hout⟩ := h
  have hr : step r = .next (finish r) := step_of_finishDue (hphase.trans hp) (by rw [hnidx, hcount, hl])
  refine endAlike_succ (step_of_finishDue hp hl) hr ⟨finish s, finish r, rfl, rfl, rfl, rfl, ?_, fun i hi => ?_⟩
  · simp [SameResults, hcount]
  · have hi : i < written s := by
      simp only [written, hp]
      omega
    exact hout i hi

theorem endAlike_run {k : Nat} {s r : State} (h : Lockstep s r) (hp : s.phase = .run)
    (hk : (s.nidx.toNat : Int) + k = s.argCount.toInt - 2) : EndAlike (k + 1) s.argCount.toInt s r := by
  induction k generalizing s r with
  | zero => exact endAlike_finish h hp (by simpa using hk)
  | succ k ih =>
    have hd : NibbleDue s := ⟨hp, by omega⟩
    obtain ⟨x, d2, hs, hr⟩ := step_lockstep_nibbleDue h hd
    have hleft : ((shift x d2 s).nidx.toNat : Int) + k = s.argCount.toInt - 2 := by
      have := nidx_succ hd
      rw [shift_nidx]
      omega
    exact endAlike_succ hs hr (ih (lockstep_shift h hd x d2) hp hleft)

theorem endAlike_seed0 {s r : State} (h : Lockstep s r) (hp : s.phase = .seed0) (hn : s.nidx = 0) :
    EndAlike (nibbleCount s + 3) s.argCount.toInt s r := by
  have h1 := lockstep_seed0 h hp
  have h2 := lockstep_seed1 h1 rfl hn
  have hleft : ((seed1 (seed0 s)).nidx.toNat : Int) + nibbleCount s = s.argCount.toInt - 2 := by
    have hpos := h.args.1
    have hzero : s.nidx.toNat = 0 := by
      rw [hn]
      rfl
    simp only [seed1_nidx, seed0_nidx, hzero, nibbleCount]
    omega
  have hpr : r.phase = .seed0 := h.phase.trans hp
  exact endAlike_succ (step_of_seed0 hp) (step_of_seed0 hpr)
    (endAlike_succ (step_of_seed1 rfl) (step_of_seed1 rfl) (endAlike_run h2 rfl hleft))

/-! ### Equal inputs give equal launches -/

/-- What the claim asks of the two launches beside being started. -/
structure SameInputs (s r : State) : Prop where
  count : r.argCount = s.argCount
  cap : r.argCap = s.argCap
  nextra : r.argNextra = s.argNextra
  stdCoef : r.stdCoef = s.stdCoef
  adapt : r.adapt = s.adapt
  input : ∀ off < blockBytes s, inRead r off = inRead s off
  extra : ∀ e < 2 * s.argNextra.toNat, xcRead r e = xcRead s e

theorem inFun_congr {s r : State} (h : SameInputs s r) {off : Nat} (hoff : off < 7) : inFun r off = inFun s off := by
  rw [inFun, inFun, h.input off (by unfold blockBytes; omega)]

theorem launchable_congr {s r : State} (h : SameInputs s r) (hr : Started r) (hs : Launchable s) : Launchable r := by
  obtain ⟨-, hargs, hin, hxc, hp⟩ := hs
  have hbytes : blockBytes r = blockBytes s := by rw [blockBytes, blockBytes, h.count]
  refine ⟨hr, ?_, fun off hoff => ?_, fun e he => ?_, ?_⟩
  · simpa only [ArgsValid, h.count, h.cap] using hargs
  · rw [hbytes] at hoff
    rw [h.input off hoff]
    exact hin off hoff
  · rw [h.nextra] at he
    rw [h.extra e (by omega)]
    exact hxc e he
  · simpa only [Served, inFun_congr h (show 0 < 7 by decide), h.nextra] using hp

theorem resolveCoef_sameInputs {s r : State} (h : SameInputs s r) {p : Byte} (hp : Served p s) :
    resolveCoef p r = resolveCoef p s := by
  by_cases hstd : p.toNat < Config.stdCount
  · simp only [resolveCoef, dif_pos hstd, stdPair, h.stdCoef]
  · have hextra : p.toNat - 7 < s.argNextra.toNat := hp.resolve_left hstd
    simp only [resolveCoef, dif_neg hstd, extraPair, Config.stdCount,
      h.extra (2 * (p.toNat - 7)) (by omega), h.extra (2 * (p.toNat - 7) + 1) (by omega)]

theorem latchIn_congr {inp inp' : Nat → Byte} (h : ∀ off < 7, inp' off = inp off) (pair : CoefPair) (s : State) :
    latchIn inp' pair s = latchIn inp pair s := by
  simp [latchIn, h]

/-- Two launches with equal inputs latch the same values. -/
theorem step_lockstep_launchable {s r : State} (h : SameInputs s r) (hs : Launchable s) (hr : Started r) :
    ∃ pair, step s = .next (latchIn (inFun s) pair s) ∧ step r = .next (latchIn (inFun s) pair r) := by
  obtain ⟨pair, hpair, hstep⟩ := step_of_launchable hs
  obtain ⟨pair', hpair', hstep'⟩ := step_of_launchable (launchable_congr h hr hs)
  obtain ⟨-, -, -, -, hp⟩ := hs
  rw [inFun_congr h (by decide), resolveCoef_sameInputs h hp, hpair] at hpair'
  obtain rfl : pair = pair' := by simpa using hpair'
  refine ⟨pair, hstep, ?_⟩
  rw [hstep', latchIn_congr (fun off => inFun_congr h)]

theorem lockstep_latchIn {s r : State} (h : SameInputs s r) (hargs : ArgsValid s) (hin : InputSupplied s)
    (inp : Nat → Byte) (pair : CoefPair) : Lockstep (latchIn inp pair s) (latchIn inp pair r) where
  phase := rfl
  working := ⟨rfl, rfl, rfl, rfl, rfl, rfl, rfl⟩
  adapt := h.adapt
  count := h.count
  args := hargs
  supplied := hin
  input := h.input
  output := fun i hi => absurd hi (Nat.not_lt_zero i)

/-- Settles O51: LATCH puts the two decodes in lockstep, and lockstep lasts to the end of the block. -/
theorem decodeDependsOnItsInputsAlone : Obligations.DecodeDependsOnItsInputsAlone := by
  intro s r hs hr hcount hcap hnextra hstd hadapt hin hxc
  have h : SameInputs s r := ⟨hcount, hcap, hnextra, hstd, hadapt, hin, hxc⟩
  obtain ⟨pair, hstep, hstep'⟩ := step_lockstep_launchable h hs hr
  obtain ⟨-, hargs, hsup, -, -⟩ := hs
  exact endAlike_succ hstep hstep' (endAlike_seed0 (lockstep_latchIn h hargs hsup (inFun s) pair) rfl rfl)

end Sys2Proof.Proofs
end

section
/-! What a decode writes in HOST memory (spec/20_memory.md): the frames of the nibble codes and of the pair byte, and from the forms of a step the order and the region in which OUT is written. -/

namespace Sys2Proof.Proofs

open Sys2Proof.Machine Sys2Proof.Claims

/-! ### The frames of the nibble codes and of the pair byte -/

theorem exec_eq_nibble {i : Instr} (hi : i.format = .N) (s : State) : ∃ n, exec i s = nibble n s := by
  obtain ⟨hP, -⟩ | ⟨-, hN⟩ | ⟨h, l, rfl, -⟩ := exec_cases i s
  · exact absurd (hP.symm.trans hi) (by decide)
  · exact hN
  · exact absurd hi (by simp [Instr.format])

theorem nibble_next_shift {n : Nibble} {s t : State} (h : nibble n s = .next t) :
    NibbleDue s ∧ ∃ x d2, t = shift x d2 s := by
  obtain ⟨hd, rfl⟩ := nibble_next.1 h
  exact ⟨(nibbleDue_iff s).1 hd, _, _, rfl⟩

/-- Settles O26: every nibble code is `shift` of some sample and delta, which writes OUT once. -/
theorem nibbleCodesWriteOneElement : Obligations.NibbleCodesWriteOneElement := by
  intro i s t hi hexec
  obtain ⟨n, hn⟩ := exec_eq_nibble hi s
  obtain ⟨-, x, d2, rfl⟩ := nibble_next_shift (hn.symm.trans hexec)
  exact ⟨Memory.read_write_same _ _ _, fun a ha => Memory.read_write_other _ _ ha, fun _ => ⟨rfl, rfl⟩,
    ⟨rfl, rfl, rfl, rfl, rfl, rfl, rfl, rfl, rfl⟩, ⟨rfl, rfl, rfl⟩, rfl, rfl, rfl, rfl, rfl, rfl⟩

/-- Two NIB steps write neighbouring elements, since NIDX does not wrap between them. -/
theorem shift_shift_outMem {s : State} (hd : NibbleDue s) (x d x' d' : S16) :
    (shift x' d' (shift x d s)).outMem =
      Memory.write (Memory.write s.outMem (s.outBase + (2 + s.nidx.toNat)) (normalizeToFloat x))
        (s.outBase + (3 + s.nidx.toNat)) (normalizeToFloat x') := by
  have hnext : 2 + (s.nidx + 1).toNat = 3 + s.nidx.toNat := by
    rw [nidx_succ hd]
    omega
  simp only [shift_outMem, shift_outBase, shift_nidx, hnext]

/-- Settles O28: the two halves are two `shift`s, at NIDX and at its successor. -/
theorem pairWritesTwoElements : Obligations.PairWritesTwoElements := by
  intro h l s t hexec
  obtain ⟨-, u, hh, hl⟩ := execPair_next.1 hexec
  obtain ⟨hd, x, d, rfl⟩ := nibble_next_shift hh
  obtain ⟨hd', x', d', rfl⟩ := nibble_next_shift hl
  have hout := shift_shift_outMem hd x d x' d'
  refine ⟨?_, ?_, fun a ha ha' => ?_, fun _ => ⟨rfl, rfl⟩, ⟨rfl, rfl, rfl, rfl, rfl, rfl, rfl, rfl, rfl⟩,
    ⟨rfl, rfl, rfl⟩, rfl, rfl, rfl, rfl, rfl, ?_⟩
  · rw [hout, Memory.read_write_other _ _ (by omega)]
    exact Memory.read_write_same _ _ _
  · rw [hout]
    exact Memory.read_write_same _ _ _
  · rw [hout, Memory.read_write_other _ _ ha', Memory.read_write_other _ _ ha]
  · have hnidx := nidx_succ hd'
    rwa [shift_nidx, nidx_succ hd] at hnidx

/-! ### What a step of a decode leaves alone -/

theorem not_atRest_of_decoding {s : State} (hs : Active s ∨ Started s) : ¬ AtRest s := by
  rintro ⟨hrest, hq⟩
  obtain ha | ⟨-, hpending⟩ := hs
  · exact not_active_of_resting hrest ha
  · simp [hq] at hpending

/-- Settles O40: the HOST's own moves are the only form of a step with IN, XC or the setting among its writes. -/
theorem decoderNeverWritesItsInputs : Obligations.DecoderNeverWritesItsInputs := by
  intro s t hs hstep
  cases stepTo_of_step hstep with
  | host _ _ atRest _ => exact absurd atRest (not_atRest_of_decoding hs)
  | _ => exact ⟨fun _ => ⟨rfl, rfl⟩, rfl, rfl, rfl, rfl, rfl, rfl, rfl, rfl, rfl⟩

/-- Settles O35: after a START the step is a raised error or LATCH, and neither writes memory; inside a decode it is no raised error. -/
theorem errorsComeBeforeOutput : Obligations.ErrorsComeBeforeOutput := by
  refine ⟨fun s t hs hstep => ?_, fun s t ha hstep => ?_⟩
  · rw [step_of_started hs] at hstep
    obtain ⟨e, -, rfl⟩ | ⟨-, p, -, ⟨-, rfl⟩ | ⟨-, d, c, q, pair, -, rfl⟩⟩ := checkStep_next hstep
    · exact fun _ => ⟨rfl, rfl, rfl⟩
    · exact fun _ => ⟨rfl, rfl, rfl⟩
    · exact fun _ => ⟨rfl, rfl, rfl⟩
  · cases stepTo_of_step hstep with
    | seed0 _ => simp
    | seed1 _ => simp
    | nibble _ due _ => simp [due.1]
    | finish _ _ => simp
    | raise _ started => exact absurd ha (not_active_of_resting started.1)
    | latch _ _ _ _ _ _ _ _ _ => simp
    | host _ _ atRest _ => exact absurd atRest (not_atRest_of_decoding (.inl ha))

/-! ### The order in which OUT is written -/

/-- A step from `s` to `t` that writes at most the element `w` of OUT, inside ARG_COUNT and ARG_CAP, with the value `f`. -/
def WritesOut (w : Option Nat) (f : F32) (s t : State) : Prop :=
  (∀ i, w = some i → (i : Int) < s.argCount.toInt ∧ i < s.argCap.toNat ∧ outRead t i = some f) ∧
  (∀ a, (∀ i, w = some i → a ≠ s.outBase + i) → Memory.read t.outMem a = Memory.read s.outMem a)

theorem writesOut_some {s t : State} {i : Nat} {f : F32} (hargs : ArgsValid s) (hi : (i : Int) < s.argCount.toInt)
    (hbase : t.outBase = s.outBase) (hout : t.outMem = Memory.write s.outMem (s.outBase + i) f) :
    WritesOut (some i) f s t := by
  obtain ⟨-, -, hcap⟩ := hargs
  refine ⟨?_, fun a ha => ?_⟩
  · rintro _ ⟨⟩
    refine ⟨hi, by omega, ?_⟩
    rw [outRead, hbase, hout]
    exact Memory.read_write_same _ _ f
  · rw [hout]
    exact Memory.read_write_other _ f (ha i rfl)

theorem writesOut_none {s t : State} (f : F32) (hout : t.outMem = s.outMem) : WritesOut none f s t :=
  ⟨by simp, fun _ _ => by rw [hout]⟩

/-- Settles O44: each form of a step inside a decode writes the element that R150's order gives it. -/
theorem outputIsWrittenInOrder : Obligations.OutputIsWrittenInOrder := by
  intro s t hinv ha hstep
  obtain ⟨-, hargs, -⟩ := hinv.active ha
  have hcount : 2 ≤ s.argCount.toInt := hargs.1
  refine ⟨_, rfl, ?_⟩
  change WritesOut _ _ s t
  cases stepTo_of_step hstep with
  | seed0 hp =>
    simp only [hp, if_true]
    exact writesOut_some hargs (by omega) rfl rfl
  | seed1 hp =>
    simp only [hp, reduceCtorEq, if_false, if_true]
    exact writesOut_some hargs (by omega) rfl rfl
  | nibble n due _ =>
    have hlt := due.2
    simp only [due.1, hlt, reduceCtorEq, if_false, if_true]
    exact writesOut_some hargs (by omega) rfl rfl
  | finish hp last =>
    simp only [hp, last, lt_irrefl, reduceCtorEq, if_false]
    exact writesOut_none _ rfl
  | raise _ started => exact absurd ha (not_active_of_resting started.1)
  | latch _ _ _ _ _ started _ _ _ => exact absurd ha (not_active_of_resting started.1)
  | host _ _ atRest _ => exact absurd atRest (not_atRest_of_decoding (.inl ha))

/-! ### The region a decode stays in -/

/-- Without a pending HOST move only DEC takes steps. -/
theorem decoding_of_step {s t : State} (hhost : s.host = []) (hstep : step s = .next t) : Active s ∨ Started s := by
  cases stepTo_of_step hstep with
  | seed0 hp => exact .inl (.inl hp)
  | seed1 hp => exact .inl (.inr (.inl hp))
  | nibble _ due _ => exact .inl (.inr (.inr due.1))
  | finish hp _ => exact .inl (.inr (.inr hp))
  | raise _ started => exact .inr started
  | latch _ _ _ _ _ started _ _ _ => exact .inr started
  | host _ _ _ pending => simp [hhost] at pending

/-- An address outside `OUT[0 .. ARG_COUNT-1]` of the region of this decode. -/
def OutsideRegion (s : State) (a : Nat) : Prop := a < s.outBase ∨ (s.outBase : Int) + s.argCount.toInt ≤ a

/-- Every step of a decode keeps OUT outside its region: CHECK and LATCH write nothing, and every index written later is below ARG_COUNT. -/
theorem step_keeps_outside {s t : State} (hinv : Inv s) (hs : Active s ∨ Started s) (hstep : step s = .next t) {a : Nat}
    (ha : OutsideRegion s a) : Memory.read t.outMem a = Memory.read s.outMem a := by
  obtain hactive | hstarted := hs
  · obtain ⟨w, -, hbound, hframe⟩ := outputIsWrittenInOrder s t hinv hactive hstep
    refine hframe a fun i hi heq => ?_
    obtain ⟨hlt, -⟩ := hbound i hi
    unfold OutsideRegion at ha
    omega
  · obtain ⟨-, -, hout⟩ := errorsComeBeforeOutput.1 s t hstarted hstep a
    exact hout

theorem run_succ_next {k : Nat} {s t : State} (h : Sys2Proof.core.run (k + 1) s = .next t) :
    ∃ u, step s = .next u ∧ Sys2Proof.core.run k u = .next t := by
  cases hstep : step s with
  | next u => exact ⟨u, rfl, (run_next k hstep).symm.trans h⟩
  | fault r => cases (run_fault k hstep).symm.trans h
  | refused r => cases (run_refused k hstep).symm.trans h

/-- However long the run, by induction on its steps: each keeps the invariant, the region and the empty list of HOST moves. -/
theorem run_keeps_outside {k : Nat} {s t : State} (hinv : Inv s) (hhost : s.host = [])
    (hrun : Sys2Proof.core.run k s = .next t) :
    (∀ a, OutsideRegion s a → Memory.read t.outMem a = Memory.read s.outMem a) ∧
      ∀ a, Memory.read t.inMem a = Memory.read s.inMem a ∧ Memory.read t.xcMem a = Memory.read s.xcMem a := by
  induction k generalizing s with
  | zero =>
    cases hrun
    exact ⟨fun _ _ => rfl, fun _ => ⟨rfl, rfl⟩⟩
  | succ k ih =>
    obtain ⟨u, hstep, hrun⟩ := run_succ_next hrun
    have hs := decoding_of_step hhost hstep
    obtain ⟨hinputs, hcount, -, -, -, -, -, -, hbase, hmoves⟩ := decoderNeverWritesItsInputs s u hs hstep
    obtain ⟨hout, hinputs'⟩ := ih (everyStepKeepsInvariant s u hinv hstep) (hmoves.trans hhost) hrun
    refine ⟨fun a ha => ?_, fun a => ?_⟩
    · have hau : OutsideRegion u a := by rwa [OutsideRegion, hbase, hcount]
      exact (hout a hau).trans (step_keeps_outside hinv hs hstep ha)
    · exact ⟨(hinputs' a).1.trans (hinputs a).1, (hinputs' a).2.trans (hinputs a).2⟩

/-- Settles O55: a run from inside a decode keeps everything outside its region. -/
theorem decodeStaysInItsOutputRegion : Obligations.DecodeStaysInItsOutputRegion :=
  fun _ _ _ hinv _ hhost hrun => run_keeps_outside hinv hhost hrun

end Sys2Proof.Proofs
end

section
/-! The encoding (spec/30_encoding.md): fields go into bytes and come back unchanged, so decoder and encoder undo each other; and a pair byte means what DEC's two steps over it do. -/

namespace Sys2Proof.Proofs

open Sys2Proof.Machine Sys2Proof.Claims

/-! ### Fields and bytes (R50, R51) -/

@[simp] theorem le16_low_high (w : S16) : le16 (w.extractLsb' 0 8) (w.extractLsb' 8 8) = w :=
  BitVec.extractLsb'_append_extractLsb'

@[simp] theorem low_le16 (lo hi : Byte) : (le16 lo hi).extractLsb' 0 8 = lo := BitVec.extractLsb'_append_eq_right

@[simp] theorem high_le16 (lo hi : Byte) : (le16 lo hi).extractLsb' 8 8 = hi := BitVec.extractLsb'_append_eq_left

@[simp] theorem highNibble_append (h l : Nibble) : highNibble (h ++ l) = h := BitVec.extractLsb'_append_eq_left

@[simp] theorem lowNibble_append (h l : Nibble) : lowNibble (h ++ l) = l := BitVec.extractLsb'_append_eq_right

@[simp] theorem highNibble_append_lowNibble (b : Byte) : highNibble b ++ lowNibble b = b :=
  BitVec.extractLsb'_append_extractLsb'

/-! ### Decoding what was encoded -/

theorem decode_encodePreamble (p : Byte) (d c q : S16) (rest : List Byte) :
    decode .P (encodePreamble p d c q ++ rest) =
      .ok (decodePreamble p (d.extractLsb' 0 8) (d.extractLsb' 8 8) (c.extractLsb' 0 8) (c.extractLsb' 8 8)
        (q.extractLsb' 0 8) (q.extractLsb' 8 8), rest) := rfl

theorem decodePreamble_extra {b0 : Byte} (h : 7 ≤ b0.toNat) (b1 b2 b3 b4 b5 b6 : Byte) :
    decodePreamble b0 b1 b2 b3 b4 b5 b6 = .preX b0 (le16 b1 b2) (le16 b3 b4) (le16 b5 b6) := by
  unfold decodePreamble
  split
  case h_8 => rfl
  all_goals omega

/-- Settles O5: a preamble comes back field by field, its index picking the constructor; a pair byte comes back by halves; the sixteen nibble codes are fixed bytes. -/
theorem decodeOfEncodeIsIdentity : Obligations.DecodeOfEncodeIsIdentity := by
  intro i rest hwf
  cases i with
  | preX p d c q =>
    have hp : 7 ≤ p.toNat := by simpa [Instr.wf] using hwf
    simp [Instr.format, encode, decode_encodePreamble, decodePreamble_extra hp]
  | preS0 d c q | preS1 d c q | preS2 d c q | preS3 d c q | preS4 d c q | preS5 d c q | preS6 d c q =>
    simp [Instr.format, encode, decode_encodePreamble, decodePreamble]
  | pair h l => simp [Instr.format, encode, decode, decodePair]
  | _ => rfl

/-! ### Encoding what was decoded -/

/-- An instruction is the reading of some bytes in a format when it is well formed, of that format, and encodes to them. -/
def Reads (f : Format) (bs : List Byte) (i : Instr) : Prop := i.wf = true ∧ i.format = f ∧ encode i = bs

theorem encodePreamble_le16 (b0 b1 b2 b3 b4 b5 b6 : Byte) :
    encodePreamble b0 (le16 b1 b2) (le16 b3 b4) (le16 b5 b6) = [b0, b1, b2, b3, b4, b5, b6] := by
  simp [encodePreamble]

theorem reads_decodePreamble (b0 b1 b2 b3 b4 b5 b6 : Byte) :
    Reads .P [b0, b1, b2, b3, b4, b5, b6] (decodePreamble b0 b1 b2 b3 b4 b5 b6) := by
  have hbytes := encodePreamble_le16 b0 b1 b2 b3 b4 b5 b6
  by_cases hextra : 7 ≤ b0.toNat
  · rw [decodePreamble_extra hextra]
    exact ⟨decide_eq_true hextra, rfl, hbytes⟩
  · obtain ⟨⟨p, hp⟩⟩ := b0
    have hstd : p < 7 := not_le.1 hextra
    interval_cases p <;> exact ⟨rfl, rfl, hbytes⟩

theorem encode_decodeNibble : ∀ n : Nibble, encode (decodeNibble n) = [0#4 ++ n] := by decide

theorem reads_decodeNibble (n : Nibble) : Reads .N [0#4 ++ n] (decodeNibble n) := by
  have hbytes := encode_decodeNibble n
  obtain ⟨⟨v, hv⟩⟩ := n
  change v < 16 at hv
  interval_cases v <;> exact ⟨rfl, rfl, hbytes⟩

theorem reads_decodePair (b : Byte) : Reads .B [b] (decodePair b) :=
  ⟨rfl, rfl, by simp [decodePair, encode]⟩

theorem reads_of_decode {f : Format} {bs rest : List Byte} {i : Instr} (h : decode f bs = .ok (i, rest)) :
    ∃ read, Reads f read i ∧ bs = read ++ rest := by
  unfold decode at h
  split at h
  case h_1 =>
    cases h
    exact ⟨_, reads_decodePreamble .., rfl⟩
  case h_3 b tail =>
    split at h
    · rename_i hhigh
      cases h
      have hb := highNibble_append_lowNibble b
      rw [hhigh] at hb
      exact ⟨_, reads_decodeNibble _, congrArg (· :: _) hb.symm⟩
    · cases h
  case h_5 =>
    cases h
    exact ⟨_, reads_decodePair _, rfl⟩
  all_goals cases h

/-- Settles O6: what decodes is the reading of the bytes it took, and formats P and B look at no bit that could refuse them. -/
theorem encodeOfDecodeIsIdentity : Obligations.EncodeOfDecodeIsIdentity := by
  refine ⟨fun f bs rest i h => ?_, fun bs hlen => ?_, fun bs hlen => ?_⟩
  · obtain ⟨read, ⟨hwf, hformat, rfl⟩, rfl⟩ := reads_of_decode h
    exact ⟨hwf, hformat, rfl⟩
  · match bs, hlen with
    | _ :: _ :: _ :: _ :: _ :: _ :: _ :: _, _ => exact ⟨_, _, rfl⟩
  · match bs, hlen with
    | _ :: _, _ => exact ⟨_, _, rfl⟩

/-! ### The pair byte (R90) -/

theorem nibble_of_nibbleDue {s : State} (hd : NibbleDue s) (n : Nibble) : nibble n s = .next (stepped n s) :=
  nibble_next.2 ⟨(nibbleDue_iff s).2 hd, rfl⟩

theorem nibbleDue_stepped {s : State} (hd : NibbleDue s) (htwo : (s.nidx.toNat : Int) + 1 < s.argCount.toInt - 2)
    (n : Nibble) : NibbleDue (stepped n s) := by
  refine ⟨hd.1, ?_⟩
  change ((s.nidx + 1).toNat : Int) < s.argCount.toInt - 2
  rw [nidx_succ hd]
  exact_mod_cast htwo

/-- NIDX and its successor share one pair byte when NIDX is even (R158). -/
theorem fetchNibble_pair {h l : Nibble} {s : State} (hd : NibbleDue s) (heven : s.nidx.toNat % 2 = 0)
    (hbyte : inRead s (7 + s.nidx.toNat / 2) = some (h ++ l)) (n : Nibble) :
    fetchNibble s = some h ∧ fetchNibble (stepped n s) = some l := by
  have hnidx : (stepped n s).nidx.toNat = s.nidx.toNat + 1 := nidx_succ hd
  have hoff : pairOffset (s.nidx.toNat + 1) = 7 + s.nidx.toNat / 2 := by
    simp only [pairOffset, Config.preBytes]
    omega
  have hbyte' : inRead (stepped n s) (7 + s.nidx.toNat / 2) = some (h ++ l) := hbyte
  have hodd : (s.nidx.toNat + 1) % 2 ≠ 0 := by omega
  constructor
  · simp [fetchNibble, pairOffset, hbyte, nibbleOf, heven]
  · simp [fetchNibble, hnidx, hoff, hbyte', nibbleOf, hodd]

theorem step_eq_stepped {s : State} {n : Nibble} (hd : NibbleDue s) (hn : fetchNibble s = some n) :
    step s = .next (stepped n s) := step_of_fetchNibble hd hn

/-- Settles O27: the first nibble leaves the second one due, in the instruction as in DEC's two steps. -/
theorem pairIsHighThenLowNibble : Obligations.PairIsHighThenLowNibble := by
  intro h l s hp heven htwo
  have hd : NibbleDue s := ⟨hp, by omega⟩
  have hd' := nibbleDue_stepped hd htwo h
  constructor
  · exact execPair_next.2 ⟨heven, _, nibble_of_nibbleDue hd h, nibble_of_nibbleDue hd' l⟩
  · intro hbyte
    obtain ⟨hhigh, hlow⟩ := fetchNibble_pair hd heven hbyte h
    rw [run_next 1 (step_eq_stepped hd hhigh), run_next 0 (step_eq_stepped hd' hlow)]
    rfl

/-! ### Words of the spec -/

/-- Settles O4: each word is evaluated. -/
theorem decodingOfSpecWords : Obligations.DecodingOfSpecWords :=
  ⟨rfl, rfl, rfl, rfl, rfl, rfl, rfl, rfl, rfl, rfl⟩

end Sys2Proof.Proofs
end

section
/-! The integer helpers (spec/40_helpers.md R110, R115): the division that truncates toward zero, and the clamp to s16. -/

namespace Sys2Proof.Proofs

open Sys2Proof.Machine Sys2Proof.Claims

/-! ### Division truncating toward zero (R110) -/

theorem tdiv_of_nonneg {a : Int} (b : Int) (ha : 0 ≤ a) : tdiv a b = a / b := if_pos ha

theorem tdiv_of_neg {a : Int} (b : Int) (ha : a < 0) : tdiv a b = -((-a) / b) := if_neg (by omega)

/-- Truncation is an odd function, so its facts for negative dividends follow from those for the others. -/
theorem tdiv_neg_left {a : Int} (b : Int) (ha : 0 ≤ a) : tdiv (-a) b = -tdiv a b := by
  rcases ha.eq_or_lt with rfl | hpos
  · simp [tdiv]
  · rw [tdiv_of_neg b (by omega), neg_neg, tdiv_of_nonneg b ha]

theorem tdiv_mul_bounds_of_nonneg {a b : Int} (hb : 0 < b) (ha : 0 ≤ a) :
    |tdiv a b * b| ≤ |a| ∧ |a - tdiv a b * b| < b := by
  have hquot : 0 ≤ a / b * b := mul_nonneg (Int.ediv_nonneg ha hb.le) hb.le
  have hle : a / b * b ≤ a := Int.ediv_mul_le a hb.ne'
  have hlt : a < a / b * b + b := add_one_mul (a / b) b ▸ Int.lt_ediv_add_one_mul_self a hb
  rw [tdiv_of_nonneg b ha, abs_of_nonneg hquot, abs_of_nonneg ha, abs_of_nonneg (by omega)]
  omega

theorem tdiv_mul_bounds {a b : Int} (hb : 0 < b) : |tdiv a b * b| ≤ |a| ∧ |a - tdiv a b * b| < b := by
  rcases le_or_gt 0 a with ha | ha
  · exact tdiv_mul_bounds_of_nonneg hb ha
  · obtain ⟨c, rfl⟩ : ∃ c, a = -c := ⟨-a, (neg_neg a).symm⟩
    obtain ⟨hquot, hrem⟩ := tdiv_mul_bounds_of_nonneg hb (a := c) (by omega)
    rw [tdiv_neg_left b (by omega), neg_mul, ← neg_sub', abs_neg, abs_neg, abs_neg]
    exact ⟨hquot, hrem⟩

theorem tdiv_256_eq_shift (a : Int) : tdiv a 256 = (a + if a < 0 then 255 else 0) >>> (8 : Nat) := by
  rw [Int.shiftRight_eq_div_pow]
  rcases le_or_gt 0 a with ha | ha
  · rw [tdiv_of_nonneg _ ha, if_neg (by omega)]
    omega
  · rw [tdiv_of_neg _ ha, if_pos ha]
    omega

theorem tdiv_256_ne_shift_iff (a : Int) : tdiv a 256 ≠ a >>> (8 : Nat) ↔ a < 0 ∧ a % 256 ≠ 0 := by
  rw [Int.shiftRight_eq_div_pow]
  rcases le_or_gt 0 a with ha | ha
  · rw [tdiv_of_nonneg _ ha]
    omega
  · rw [tdiv_of_neg _ ha]
    omega

/-- Settles O7: the two cases are the definition's; the bounds hold for a dividend and its negation alike. -/
theorem divisionTruncatesTowardZero : Obligations.DivisionTruncatesTowardZero :=
  ⟨fun _ b hb => ⟨tdiv_of_nonneg b, tdiv_of_neg b, tdiv_mul_bounds hb⟩,
   fun a => ⟨tdiv_256_eq_shift a, tdiv_256_ne_shift_iff a⟩⟩

/-! ### Saturation (R115) -/

theorem saturate16_toInt_eq_max_min (v : Int) : (saturate16 v).toInt = max (-32768) (min 32767 v) := by
  rw [saturate16_toInt, saturate_eq_max_min (by decide)]

theorem saturate16_toInt_of_mem {v : Int} (hlo : -32768 ≤ v) (hhi : v ≤ 32767) : (saturate16 v).toInt = v := by
  rw [saturate16_toInt_eq_max_min]
  omega

theorem saturate16_toInt_of_gt {v : Int} (h : v > 32767) : (saturate16 v).toInt = 32767 := by
  rw [saturate16_toInt_eq_max_min]
  omega

theorem saturate16_toInt_of_lt {v : Int} (h : v < -32768) : (saturate16 v).toInt = -32768 := by
  rw [saturate16_toInt_eq_max_min]
  omega

theorem saturate16_idem (v : Int) : saturate16 (saturate16 v).toInt = saturate16 v := by
  obtain ⟨hlo, hhi⟩ := toInt_s16_bounds (saturate16 v)
  exact BitVec.eq_of_toInt_eq (saturate16_toInt_of_mem hlo hhi)

theorem saturate16_mono {v w : Int} (h : v ≤ w) : (saturate16 v).toInt ≤ (saturate16 w).toInt := by
  rw [saturate16_toInt_eq_max_min, saturate16_toInt_eq_max_min]
  exact max_le_max_left _ (min_le_min_left _ h)

/-- Settles O8: read as an integer, the clamp is a maximum of a minimum; `computeSample` is defined as a clamp. -/
theorem saturationClampsToSixteenBits : Obligations.SaturationClampsToSixteenBits :=
  ⟨fun v => ⟨saturate16_toInt_of_gt, saturate16_toInt_of_lt, saturate16_toInt_of_mem, saturate16_idem v⟩,
   fun _ _ => saturate16_mono, fun _ _ _ _ _ _ => rfl⟩

end Sys2Proof.Proofs
end

section
/-! The binary32 patterns (spec/40_helpers.md R118): a packed sign, exponent and significand, what it stands for, and which values the zero and normal patterns have. -/

namespace Sys2Proof.Proofs

open Sys2Proof.Machine Sys2Proof.Claims

theorem two_zpow_mul {a b c : ℤ} (h : a + b = c) : (2 : ℚ) ^ a * 2 ^ b = 2 ^ c :=
  h ▸ (zpow_add₀ two_ne_zero a b).symm

/-- The pattern that `rn32` writes for a sign, an exponent field and a significand in `2^23 .. 2^24`. -/
def packF32 (negative : Bool) (E m : Nat) : F32 :=
  BitVec.ofNat 32 ((if negative then 2 ^ 31 else 0) + E * 2 ^ 23 + (m - 2 ^ 23))

section Fields

variable {E m : Nat} (negative : Bool) (hE : E < 2 ^ 8) (hlo : 2 ^ 23 ≤ m) (hhi : m < 2 ^ 24)
include hE hlo hhi

theorem packF32_toNat :
    (packF32 negative E m).toNat = (if negative then 2 ^ 31 else 0) + E * 2 ^ 23 + (m - 2 ^ 23) := by
  rw [packF32, BitVec.toNat_ofNat]
  apply Nat.mod_eq_of_lt
  split <;> omega

theorem packF32_msb : (packF32 negative E m).msb = negative := by
  rw [BitVec.msb_eq_decide, packF32_toNat negative hE hlo hhi]
  cases negative with
  | false => exact decide_eq_false (by rw [if_neg Bool.false_ne_true]; omega)
  | true => exact decide_eq_true (by rw [if_pos rfl]; omega)

theorem packF32_exponent : ((packF32 negative E m).extractLsb' 23 8).toNat = E := by
  rw [BitVec.extractLsb'_toNat, packF32_toNat negative hE hlo hhi, Nat.shiftRight_eq_div_pow]
  split <;> omega

theorem packF32_fraction : ((packF32 negative E m).extractLsb' 0 23).toNat = m - 2 ^ 23 := by
  rw [BitVec.extractLsb'_toNat, packF32_toNat negative hE hlo hhi, Nat.shiftRight_zero]
  split <;> omega

theorem packF32_magnitude : ((packF32 negative E m).extractLsb' 0 31).toNat = E * 2 ^ 23 + (m - 2 ^ 23) := by
  rw [BitVec.extractLsb'_toNat, packF32_toNat negative hE hlo hhi, Nat.shiftRight_zero]
  split <;> omega

end Fields

/-- A significand rounded up to `2^24` is the next exponent's least one: the carry the packing relies on. -/
theorem packF32_carry (negative : Bool) (E : Nat) : packF32 negative E (2 ^ 24) = packF32 negative (E + 1) (2 ^ 23) := by
  simp only [packF32]
  exact congrArg (BitVec.ofNat 32) (by omega)

theorem f32Value_packF32_of_lt {E m : Nat} (negative : Bool) (hpos : 0 < E) (hE : E < 2 ^ 8) (hlo : 2 ^ 23 ≤ m)
    (hhi : m < 2 ^ 24) : f32Value (packF32 negative E m) = (if negative then -1 else 1) * m * 2 ^ ((E : ℤ) - 150) := by
  have hmag : (packF32 negative E m).extractLsb' 0 31 ≠ 0 := by
    intro h
    have hzero : ((packF32 negative E m).extractLsb' 0 31).toNat = 0 := congrArg BitVec.toNat h
    rw [packF32_magnitude negative hE hlo hhi] at hzero
    omega
  have hscale : (2 : ℚ) ^ ((E : ℤ) - 127) = 2 ^ ((E : ℤ) - 150) * 2 ^ 23 := (two_zpow_mul (b := 23) (by omega)).symm
  rw [f32Value, if_neg hmag, packF32_msb negative hE hlo hhi, packF32_exponent negative hE hlo hhi,
    packF32_fraction negative hE hlo hhi, hscale, Nat.cast_sub hlo]
  push_cast
  ring

theorem f32Normal_packF32_of_lt {E m : Nat} (negative : Bool) (hpos : 0 < E) (hE : E < 255) (hlo : 2 ^ 23 ≤ m)
    (hhi : m < 2 ^ 24) : f32Normal (packF32 negative E m) := by
  refine .inr ?_
  rw [packF32_exponent negative (by omega) hlo hhi]
  exact ⟨hpos, hE⟩

/-- What a packed pattern stands for, the carry out of the significand included. -/
theorem packF32_spec {E m : Nat} (negative : Bool) (hpos : 0 < E) (hE : E < 254) (hlo : 2 ^ 23 ≤ m) (hhi : m ≤ 2 ^ 24) :
    f32Normal (packF32 negative E m) ∧
      f32Value (packF32 negative E m) = (if negative then -1 else 1) * m * 2 ^ ((E : ℤ) - 150) := by
  rcases hhi.lt_or_eq with hlt | rfl
  · exact ⟨f32Normal_packF32_of_lt negative hpos (by omega) hlo hlt,
      f32Value_packF32_of_lt negative hpos (by omega) hlo hlt⟩
  · rw [packF32_carry]
    refine ⟨f32Normal_packF32_of_lt negative (by omega) (by omega) le_rfl (by norm_num), ?_⟩
    rw [f32Value_packF32_of_lt negative (by omega) (by omega) le_rfl (by norm_num)]
    have hstep : (2 : ℚ) ^ (((E + 1 : Nat) : ℤ) - 150) = 2 ^ (1 : ℤ) * 2 ^ ((E : ℤ) - 150) :=
      (two_zpow_mul (by omega)).symm
    rw [hstep]
    push_cast
    ring

/-- Every pattern is packed from its own sign, exponent and fraction. -/
theorem eq_packF32 (g : F32) :
    g = packF32 g.msb (g.extractLsb' 23 8).toNat (2 ^ 23 + (g.extractLsb' 0 23).toNat) := by
  have hfield : (g.extractLsb' 23 8).toNat < 2 ^ 8 := BitVec.isLt _
  have hfrac : (g.extractLsb' 0 23).toNat < 2 ^ 23 := BitVec.isLt _
  apply BitVec.eq_of_toNat_eq
  rw [packF32_toNat g.msb hfield (by omega) (by omega), BitVec.msb_eq_decide, BitVec.extractLsb'_toNat,
    BitVec.extractLsb'_toNat, Nat.shiftRight_eq_div_pow, Nat.shiftRight_zero]
  simp only [decide_eq_true_eq]
  split <;> omega

theorem f32Normal_cases {g : F32} (hg : f32Normal g) : f32Value g = 0 ∨ ∃ (negative : Bool) (E m : Nat),
    g = packF32 negative E m ∧ 0 < E ∧ E < 255 ∧ 2 ^ 23 ≤ m ∧ m < 2 ^ 24 := by
  rcases hg with hzero | ⟨hpos, hlt⟩
  · exact .inl (if_pos hzero)
  · have hfrac : (g.extractLsb' 0 23).toNat < 2 ^ 23 := BitVec.isLt _
    exact .inr ⟨_, _, _, eq_packF32 g, hpos, hlt, by omega, by omega⟩

/-- A zero or normal pattern lies below `2^e`, or on the grid of the binade of `e`: the finer steps all lie below. -/
theorem f32Value_lt_or_grid {g : F32} (hg : f32Normal g) (e : ℤ) : f32Value g < 2 ^ e ∨
    ∃ m j : Nat, g = packF32 false (e + 127 + j).toNat m ∧ f32Value g = (m * 2 ^ j : Nat) * 2 ^ (e - 23) := by
  rcases f32Normal_cases hg with hzero | ⟨negative, E, m, rfl, hpos, hE, hlo, hhi⟩
  · exact .inl (hzero ▸ by positivity)
  · rw [f32Value_packF32_of_lt negative hpos (by omega) hlo hhi]
    cases negative with
    | true =>
      left
      have : (0 : ℚ) ≤ m * 2 ^ ((E : ℤ) - 150) := by positivity
      have : (0 : ℚ) < 2 ^ e := by positivity
      simp only [if_true, neg_mul, one_mul]
      linarith
    | false =>
      simp only [Bool.false_eq_true, if_false, one_mul]
      rcases lt_or_ge ((E : ℤ) - 127) e with hbelow | habove
      · left
        have hm : (m : ℚ) < 2 ^ (24 : ℤ) := by exact_mod_cast hhi
        calc (m : ℚ) * 2 ^ ((E : ℤ) - 150) < 2 ^ (24 : ℤ) * 2 ^ ((E : ℤ) - 150) := by gcongr
          _ = 2 ^ ((E : ℤ) - 126) := two_zpow_mul (by omega)
          _ ≤ 2 ^ e := zpow_le_zpow_right₀ one_le_two (by omega)
      · right
        obtain ⟨j, hj⟩ := Int.le.dest habove
        have hexp : (E : ℤ) - 150 = j + (e - 23) := by omega
        refine ⟨m, j, congrArg (packF32 false · m) (by omega), ?_⟩
        rw [hexp, zpow_add₀ two_ne_zero, zpow_natCast]
        push_cast
        ring

theorem packF32_bit_zero {E m : Nat} (negative : Bool) (hlo : 2 ^ 23 ≤ m) (heven : Even m) :
    (packF32 negative E m).getLsbD 0 = false := by
  rw [Nat.even_iff] at heven
  rw [packF32, BitVec.getLsbD_ofNat, Nat.testBit_zero, decide_eq_false (p := _ % 2 = 1), Bool.and_false]
  split <;> omega

end Sys2Proof.Proofs
end

section
/-! Rounding a quotient to binary32 (spec/40_helpers.md R118): the integer rounding, the exponent, and what `rn32` answers: its error, when it is exact, and that it is the nearest. -/

namespace Sys2Proof.Proofs

open Sys2Proof.Machine Sys2Proof.Claims

/-! ### Rounding to the nearest integer -/

/-- Half to even: never more than half a unit off, and exactly half only at an even result. -/
theorem roundHalfEven_error (num : Nat) {den : Nat} (hden : 0 < den) :
    2 * |(roundHalfEven num den : ℤ) * den - num| ≤ den ∧
      (2 * |(roundHalfEven num den : ℤ) * den - num| = den → Even (roundHalfEven num den)) := by
  have hsplit : (num : ℤ) = den * (num / den : Nat) + (num % den : Nat) := by exact_mod_cast (Nat.div_add_mod num den).symm
  have hrem : num % den < den := Nat.mod_lt num hden
  simp only [roundHalfEven]
  generalize num / den = i at *
  generalize num % den = r at *
  split
  · have herr : ((i + 1 : Nat) : ℤ) * den - num = den - r := by
      rw [hsplit]
      push_cast
      ring
    rw [herr, abs_of_nonneg (by omega), Nat.even_iff]
    omega
  · have herr : (i : ℤ) * den - num = -r := by
      rw [hsplit]
      ring
    rw [herr, abs_neg, abs_of_nonneg (by omega), Nat.even_iff]
    omega

/-- The same bound over the rationals. -/
theorem abs_roundHalfEven_sub (num : Nat) {den : Nat} (hden : 0 < den) :
    |(roundHalfEven num den : ℚ) - num / den| ≤ 1 / 2 ∧
      (|(roundHalfEven num den : ℚ) - num / den| = 1 / 2 → Even (roundHalfEven num den)) := by
  obtain ⟨hle, htie⟩ := roundHalfEven_error num hden
  have hden' : (0 : ℚ) < den := by exact_mod_cast hden
  have hscale : |(roundHalfEven num den : ℚ) - num / den| =
      ((|(roundHalfEven num den : ℤ) * den - num| : ℤ) : ℚ) / den := by
    push_cast
    rw [← abs_of_pos hden', ← abs_div, sub_div, abs_of_pos hden', mul_div_cancel_right₀ _ hden'.ne']
  rw [hscale]
  constructor
  · rw [div_le_div_iff₀ hden' two_pos]
    exact_mod_cast (mul_comm _ _).trans_le (hle.trans_eq (one_mul _).symm)
  · intro h
    rw [div_eq_div_iff hden'.ne' two_ne_zero] at h
    exact htie (by exact_mod_cast (mul_comm _ _).trans (h.trans (one_mul _)))

theorem one_le_abs_cast_sub {m k : Nat} (hne : k ≠ m) : (1 : ℚ) ≤ |(k : ℚ) - m| := by
  exact_mod_cast Int.one_le_abs (sub_ne_zero.2 (Nat.cast_injective.ne hne) : (k : ℤ) - m ≠ 0)

theorem half_le_abs_sub_of_ne {x : ℚ} {m k : Nat} (hm : |m - x| ≤ 1 / 2) (hne : k ≠ m) : 1 / 2 ≤ |k - x| := by
  have hone := one_le_abs_cast_sub hne
  have htriangle := abs_sub_le (k : ℚ) x m
  rw [abs_sub_comm x] at htriangle
  linarith

/-- An integer at most half away from `x` is as near to it as any other. -/
theorem abs_sub_le_of_half {x : ℚ} {m : Nat} (hm : |m - x| ≤ 1 / 2) (k : Nat) : |m - x| ≤ |k - x| := by
  rcases eq_or_ne k m with rfl | hne
  · exact le_rfl
  · exact hm.trans (half_le_abs_sub_of_ne hm hne)

/-! ### The exponent -/

theorem two_zpow_eq_div (e : ℤ) : (2 : ℚ) ^ e = 2 ^ e.toNat / 2 ^ (-e).toNat := by
  rw [eq_div_iff (by positivity), ← zpow_natCast, ← zpow_natCast, ← zpow_add₀ two_ne_zero]
  congr 1
  omega

theorem log2_bounds {n : Nat} (hn : 0 < n) : (2 : ℚ) ^ (n.log2 : ℤ) ≤ n ∧ (n : ℚ) < 2 ^ ((n.log2 : ℤ) + 1) := by
  constructor
  · exact_mod_cast Nat.log2_self_le hn.ne'
  · exact_mod_cast Nat.lt_log2_self (n := n)

/-- R118: the exponent is the one whose binade holds the quotient. -/
theorem ratioExponent_bounds {n d : Nat} (hn : 0 < n) (hd : 0 < d) :
    (2 : ℚ) ^ ratioExponent n d ≤ n / d ∧ (n : ℚ) / d < 2 ^ (ratioExponent n d + 1) := by
  obtain ⟨hnlo, hnhi⟩ := log2_bounds hn
  obtain ⟨hdlo, hdhi⟩ := log2_bounds hd
  have hd' : (0 : ℚ) < d := by exact_mod_cast hd
  have htest (e : ℤ) : n * 2 ^ (-e).toNat < d * 2 ^ e.toNat ↔ (n : ℚ) / d < 2 ^ e := by
    rw [two_zpow_eq_div, div_lt_div_iff₀ hd' (by positivity), mul_comm (2 ^ e.toNat)]
    exact_mod_cast Iff.rfl
  simp only [ratioExponent, htest]
  split
  · next hlt =>
    refine ⟨?_, by simpa using hlt⟩
    rw [le_div_iff₀ hd']
    calc (2 : ℚ) ^ ((n.log2 : ℤ) - d.log2 - 1) * d
        ≤ 2 ^ ((n.log2 : ℤ) - d.log2 - 1) * 2 ^ ((d.log2 : ℤ) + 1) := by gcongr
      _ = 2 ^ (n.log2 : ℤ) := two_zpow_mul (by omega)
      _ ≤ n := hnlo
  · next hge =>
    refine ⟨not_lt.1 hge, ?_⟩
    rw [div_lt_iff₀ hd']
    calc (n : ℚ) < 2 ^ ((n.log2 : ℤ) + 1) := hnhi
      _ = 2 ^ ((n.log2 : ℤ) - d.log2 + 1) * 2 ^ (d.log2 : ℤ) := (two_zpow_mul (by omega)).symm
      _ ≤ 2 ^ ((n.log2 : ℤ) - d.log2 + 1) * d := by gcongr

/-! ### Rounding a quotient to binary32 -/

/-- The significand that `rn32` rounds to: the quotient scaled into `2^23 .. 2^24`. -/
def significand (n d : Nat) : Nat :=
  roundHalfEven (n * 2 ^ (23 - ratioExponent n d).toNat) (d * 2 ^ (ratioExponent n d - 23).toNat)

theorem rn32_eq_packF32 (negative : Bool) (n d : Nat) :
    rn32 negative n d = packF32 negative (ratioExponent n d + 127).toNat (significand n d) := rfl

/-- The quotient in units of the last place of its binade. -/
def scaledRatio (n d : Nat) : ℚ := n / d * 2 ^ (23 - ratioExponent n d)

theorem ratio_eq_scaledRatio_mul (n d : Nat) : (n : ℚ) / d = scaledRatio n d * 2 ^ (ratioExponent n d - 23) := by
  rw [scaledRatio, mul_assoc, two_zpow_mul (c := 0) (by omega), zpow_zero, mul_one]

section Rounding

variable {n d : Nat} (hn : 0 < n) (hd : 0 < d)
include hd

theorem significand_error : |(significand n d : ℚ) - scaledRatio n d| ≤ 1 / 2 ∧
    (|(significand n d : ℚ) - scaledRatio n d| = 1 / 2 → Even (significand n d)) := by
  have hratio : scaledRatio n d =
      (n * 2 ^ (23 - ratioExponent n d).toNat : Nat) / (d * 2 ^ (ratioExponent n d - 23).toNat : Nat) := by
    rw [scaledRatio, two_zpow_eq_div, neg_sub]
    push_cast
    exact div_mul_div_comm _ _ _ _
  rw [hratio]
  exact abs_roundHalfEven_sub _ (by positivity)

include hn

theorem scaledRatio_bounds : 2 ^ 23 ≤ scaledRatio n d ∧ scaledRatio n d < 2 ^ 24 := by
  obtain ⟨hlo, hhi⟩ := ratioExponent_bounds hn hd
  have hscale (k : ℤ) : (2 : ℚ) ^ (ratioExponent n d + k) * 2 ^ (23 - ratioExponent n d) = 2 ^ (23 + k) :=
    two_zpow_mul (by omega)
  constructor
  · calc (2 : ℚ) ^ 23 = 2 ^ ratioExponent n d * 2 ^ (23 - ratioExponent n d) := by simpa using (hscale 0).symm
      _ ≤ scaledRatio n d := mul_le_mul_of_nonneg_right hlo (by positivity)
  · calc scaledRatio n d < 2 ^ (ratioExponent n d + 1) * 2 ^ (23 - ratioExponent n d) :=
          mul_lt_mul_of_pos_right hhi (by positivity)
      _ = 2 ^ 24 := hscale 1

theorem significand_bounds : 2 ^ 23 ≤ significand n d ∧ significand n d ≤ 2 ^ 24 := by
  obtain ⟨hlo, hhi⟩ := scaledRatio_bounds hn hd
  obtain ⟨hbelow, habove⟩ := abs_le.1 (significand_error (n := n) hd).1
  have hlt : (2 : ℚ) ^ 23 < significand n d + 1 := by linarith
  have hgt : (significand n d : ℚ) < 2 ^ 24 + 1 := by linarith
  norm_cast at hlt hgt
  omega

/-- A pattern below the binade is farther off than the rounded significand, since the binade's lower end is not nearer. -/
theorem significand_nearer_of_lt {v : ℚ} (hv : v < 2 ^ ratioExponent n d) :
    |(significand n d : ℚ) - scaledRatio n d| * 2 ^ (ratioExponent n d - 23) < |v - n / d| := by
  have hunit : (0 : ℚ) < 2 ^ (ratioExponent n d - 23) := by positivity
  have hend : (2 : ℚ) ^ ratioExponent n d = (2 ^ 23 : Nat) * 2 ^ (ratioExponent n d - 23) := by
    rw [Nat.cast_pow, Nat.cast_two, ← zpow_natCast]
    exact (two_zpow_mul (by omega)).symm
  have hnear := abs_sub_le_of_half (significand_error (n := n) hd).1 (2 ^ 23)
  have hlow : ((2 ^ 23 : Nat) : ℚ) ≤ scaledRatio n d := by exact_mod_cast (scaledRatio_bounds hn hd).1
  calc |(significand n d : ℚ) - scaledRatio n d| * 2 ^ (ratioExponent n d - 23)
      ≤ |(2 ^ 23 : Nat) - scaledRatio n d| * 2 ^ (ratioExponent n d - 23) := mul_le_mul_of_nonneg_right hnear hunit.le
    _ = n / d - 2 ^ ratioExponent n d := by
        rw [abs_sub_comm, abs_of_nonneg (sub_nonneg.2 hlow), sub_mul, ← hend, ← ratio_eq_scaledRatio_mul]
    _ < n / d - v := sub_lt_sub_left hv _
    _ ≤ |v - n / d| := by
        rw [abs_sub_comm]
        exact le_abs_self _

variable (hmin : -126 ≤ ratioExponent n d) (hmax : ratioExponent n d ≤ 126)
include hmin hmax

theorem rn32_spec (negative : Bool) : f32Normal (rn32 negative n d) ∧ f32Value (rn32 negative n d) =
    (if negative then -1 else 1) * (significand n d * 2 ^ (ratioExponent n d - 23)) := by
  obtain ⟨hlo, hhi⟩ := significand_bounds hn hd
  have hfield : ((ratioExponent n d + 127).toNat : ℤ) - 150 = ratioExponent n d - 23 := by omega
  rw [rn32_eq_packF32, ← mul_assoc, ← hfield]
  exact packF32_spec negative (by omega) (by omega) hlo hhi

/-- R118: the result is off by at most half a unit in the last place. -/
theorem rn32_error (negative : Bool) :
    |f32Value (rn32 negative n d) - (if negative then -1 else 1) * (n / d)| ≤ 2 ^ (ratioExponent n d - 24) := by
  have hunit : (2 : ℚ) ^ (ratioExponent n d - 24) = 1 / 2 * 2 ^ (ratioExponent n d - 23) := by
    rw [one_div, ← zpow_neg_one]
    exact (two_zpow_mul (by omega)).symm
  have hsign : |(if negative then -1 else 1 : ℚ)| = 1 := by cases negative <;> simp
  rw [(rn32_spec hn hd hmin hmax negative).2, ← mul_sub, abs_mul, hsign, one_mul, ratio_eq_scaledRatio_mul, ← sub_mul,
    abs_mul, abs_of_pos (a := (2 : ℚ) ^ (ratioExponent n d - 23)) (by positivity), hunit]
  exact mul_le_mul_of_nonneg_right (significand_error hd).1 (by positivity)

/-- A quotient on the grid of its binade is represented exactly. -/
theorem rn32_exact (negative : Bool) {k : Nat} (hk : scaledRatio n d = k) :
    f32Value (rn32 negative n d) = (if negative then -1 else 1) * (n / d) := by
  have hhalf : |(significand n d : ℚ) - k| ≤ 1 / 2 := hk ▸ (significand_error (n := n) hd).1
  have hsig : significand n d = k := by
    by_contra hne
    have := one_le_abs_cast_sub hne
    linarith
  rw [(rn32_spec hn hd hmin hmax negative).2, ratio_eq_scaledRatio_mul, hk, hsig]

/-- R118: no zero or normal pattern is nearer than the rounded one, and of two equally near ones it is even: a pattern on the grid of the binade is an integer to compare with the significand. -/
theorem rn32_nearest {g : F32} (hg : f32Normal g) :
    |f32Value (rn32 false n d) - n / d| ≤ |f32Value g - n / d| ∧
    (|f32Value g - n / d| = |f32Value (rn32 false n d) - n / d| → g ≠ rn32 false n d →
      (rn32 false n d).getLsbD 0 = false) := by
  obtain ⟨hhalf, htie⟩ := significand_error (n := n) hd
  have hunit : (0 : ℚ) < 2 ^ (ratioExponent n d - 23) := by positivity
  have hdist (a : ℚ) : |a * 2 ^ (ratioExponent n d - 23) - n / d| =
      |a - scaledRatio n d| * 2 ^ (ratioExponent n d - 23) := by
    rw [ratio_eq_scaledRatio_mul, ← sub_mul, abs_mul, abs_of_pos hunit]
  have hvalue : f32Value (rn32 false n d) = significand n d * 2 ^ (ratioExponent n d - 23) := by
    simpa using (rn32_spec hn hd hmin hmax false).2
  rw [hvalue, hdist]
  rcases f32Value_lt_or_grid hg (ratioExponent n d) with hbelow | ⟨m, j, hpack, hgrid⟩
  · have hlt := significand_nearer_of_lt hn hd hbelow
    exact ⟨hlt.le, fun heq => absurd heq hlt.ne'⟩
  · rw [hgrid, hdist]
    refine ⟨mul_le_mul_of_nonneg_right (abs_sub_le_of_half hhalf _) hunit.le, fun heq hne => ?_⟩
    refine packF32_bit_zero (m := significand n d) false (significand_bounds hn hd).1 ?_
    rcases eq_or_ne (m * 2 ^ j) (significand n d) with hsame | hother
    · cases j with
      | zero => exact absurd (hpack.trans (by simp [rn32_eq_packF32, ← hsame])) hne
      | succ j => exact hsame ▸ ⟨m * 2 ^ j, by ring⟩
    · have hnear := mul_right_cancel₀ hunit.ne' heq
      exact htie (le_antisymm hhalf (hnear ▸ half_le_abs_sub_of_ne hhalf hother))

end Rounding

end Sys2Proof.Proofs
end

section
/-! Normalisation of a sample (spec/40_helpers.md R117, R119): exact below zero, nearest above, and strictly increasing. -/

namespace Sys2Proof.Proofs

open Sys2Proof.Machine Sys2Proof.Claims

/-! ### The quotients of a sample (R117) -/

theorem normalizeToFloat_of_pos {s : S16} (hs : 0 < s.toInt) :
    normalizeToFloat s = rn32 false s.toInt.natAbs 32767 := if_pos hs

theorem normalizeToFloat_of_neg {s : S16} (hs : s.toInt < 0) :
    normalizeToFloat s = rn32 true s.toInt.natAbs 32768 := by
  rw [normalizeToFloat, if_neg hs.not_gt, if_pos hs]
  rfl

theorem normalizeToFloat_of_zero {s : S16} (hs : s.toInt = 0) : normalizeToFloat s = 0 := by
  simp [normalizeToFloat, hs]

/-- The exponents of the quotients of a sample: far inside the normal range. -/
theorem ratioExponent_sample {n d : Nat} (hn : 0 < n) (hnd : n ≤ d) (hd : d ≤ 32768) :
    -126 ≤ ratioExponent n d ∧ ratioExponent n d ≤ 0 := by
  have hd' : (0 : ℚ) < d := by exact_mod_cast hn.trans_le hnd
  obtain ⟨hlo, hhi⟩ := ratioExponent_bounds hn (hn.trans_le hnd)
  have hone : (n : ℚ) / d ≤ 2 ^ (0 : ℤ) := by
    rw [zpow_zero, div_le_one hd']
    exact_mod_cast hnd
  have hleast : (2 : ℚ) ^ (-15 : ℤ) ≤ n / d := by
    rw [zpow_neg, ← one_div, div_le_div_iff₀ (by positivity) hd']
    exact_mod_cast (by omega : 1 * d ≤ n * 2 ^ 15)
  have hbelow := (zpow_lt_zpow_iff_right₀ one_lt_two).1 (hleast.trans_lt hhi)
  exact ⟨by omega, (zpow_le_zpow_iff_right₀ one_lt_two).1 (hlo.trans hone)⟩

/-- A quotient with denominator `2^15` is on the grid of its binade. -/
theorem scaledRatio_eq_cast {n d j : Nat} (hj : (n : ℚ) / d = j / 2 ^ 15) (he : ratioExponent n d ≤ 0) :
    scaledRatio n d = (j * 2 ^ (8 - ratioExponent n d).toNat : Nat) := by
  have hsplit : (23 - ratioExponent n d) = (15 : Nat) + ((8 - ratioExponent n d).toNat : ℤ) := by omega
  rw [scaledRatio, hj, hsplit, zpow_add₀ two_ne_zero, zpow_natCast, zpow_natCast]
  push_cast
  ring

theorem ratioExponent_of_pos {s : S16} (hs : 0 < s.toInt) :
    -126 ≤ ratioExponent s.toInt.natAbs 32767 ∧ ratioExponent s.toInt.natAbs 32767 ≤ 0 := by
  obtain ⟨-, hmax⟩ := toInt_s16_bounds s
  exact ratioExponent_sample (by omega) (by omega) (by omega)

theorem ratioExponent_of_neg {s : S16} (hs : s.toInt < 0) :
    -126 ≤ ratioExponent s.toInt.natAbs 32768 ∧ ratioExponent s.toInt.natAbs 32768 ≤ 0 := by
  obtain ⟨hmin, -⟩ := toInt_s16_bounds s
  exact ratioExponent_sample (by omega) (by omega) (by omega)

theorem cast_natAbs_of_pos {s : S16} (hs : 0 < s.toInt) : (s.toInt.natAbs : ℚ) = s.toInt := by
  rw [Nat.cast_natAbs, abs_of_pos hs]

theorem cast_natAbs_of_neg {s : S16} (hs : s.toInt < 0) : (s.toInt.natAbs : ℚ) = -s.toInt := by
  rw [Nat.cast_natAbs, abs_of_neg hs, Int.cast_neg]

/-! ### Results (R119) -/

theorem f32Normal_normalizeToFloat (s : S16) : f32Normal (normalizeToFloat s) := by
  rcases lt_trichotomy s.toInt 0 with hneg | hzero | hpos
  · obtain ⟨hmin, hmax⟩ := ratioExponent_of_neg hneg
    rw [normalizeToFloat_of_neg hneg]
    exact (rn32_spec (by omega) (by omega) hmin (by omega) true).1
  · rw [normalizeToFloat_of_zero hzero]
    exact .inl rfl
  · obtain ⟨hmin, hmax⟩ := ratioExponent_of_pos hpos
    rw [normalizeToFloat_of_pos hpos]
    exact (rn32_spec (by omega) (by omega) hmin (by omega) false).1

/-- R119 (a): a division by `2^15` is exact. -/
theorem f32Value_normalizeToFloat_of_neg {s : S16} (hs : s.toInt < 0) :
    f32Value (normalizeToFloat s) = s.toInt / 32768 := by
  obtain ⟨hmin, hmax⟩ := ratioExponent_of_neg hs
  have hgrid := scaledRatio_eq_cast (n := s.toInt.natAbs) (d := 32768) (j := s.toInt.natAbs) (by norm_num) hmax
  rw [normalizeToFloat_of_neg hs, rn32_exact (by omega) (by omega) hmin (by omega) true hgrid, cast_natAbs_of_neg hs]
  simp only [if_true, Nat.cast_ofNat]
  ring

theorem f32Value_normalizeToFloat_of_zero {s : S16} (hs : s.toInt = 0) : f32Value (normalizeToFloat s) = 0 := by
  rw [normalizeToFloat_of_zero hs]
  exact if_pos rfl

theorem f32Value_normalizeToFloat_of_max {s : S16} (hs : s.toInt = 32767) : f32Value (normalizeToFloat s) = 1 := by
  have hpos : 0 < s.toInt := by omega
  obtain ⟨hmin, hmax⟩ := ratioExponent_of_pos hpos
  have hgrid := scaledRatio_eq_cast (n := s.toInt.natAbs) (d := 32767) (j := 2 ^ 15) (by norm_num [hs]) hmax
  rw [normalizeToFloat_of_pos hpos, rn32_exact (by omega) (by omega) hmin (by omega) false hgrid,
    cast_natAbs_of_pos hpos, hs]
  norm_num

/-- Settles O12: a quotient by `2^15` is on the grid of its binade, and so is `32767 / 32767`. -/
theorem normalizationIsExactBelowZero : Obligations.NormalizationIsExactBelowZero :=
  ⟨fun s hs => ⟨f32Normal_normalizeToFloat s, f32Value_normalizeToFloat_of_neg hs⟩, normalizeToFloat_of_zero rfl,
    f32Value_normalizeToFloat_of_max (by decide)⟩

/-- Settles O13: the sample's quotient has a normal exponent, so it is rounded as `rn32` rounds. -/
theorem normalizationRoundsToNearestEven : Obligations.NormalizationRoundsToNearestEven := by
  intro s hs
  refine ⟨f32Normal_normalizeToFloat s, fun g hg => ?_⟩
  obtain ⟨hmin, hmax⟩ := ratioExponent_of_pos hs
  rw [normalizeToFloat_of_pos hs, ← cast_natAbs_of_pos hs]
  exact_mod_cast rn32_nearest (by omega) (by omega) hmin (by omega) hg

/-! ### Order (R119) -/

/-- The exact quotient that R117 rounds. -/
def sampleRatio (s : S16) : ℚ := if 0 < s.toInt then s.toInt / 32767 else s.toInt / 32768

theorem sampleRatio_of_pos {s : S16} (hs : 0 < s.toInt) : sampleRatio s = s.toInt / 32767 := if_pos hs

theorem sampleRatio_of_nonpos {s : S16} (hs : s.toInt ≤ 0) : sampleRatio s = s.toInt / 32768 := if_neg hs.not_gt

theorem normalizeToFloat_error (s : S16) : |f32Value (normalizeToFloat s) - sampleRatio s| ≤ 1 / 2 ^ 24 := by
  rcases lt_trichotomy s.toInt 0 with hneg | hzero | hpos
  · rw [f32Value_normalizeToFloat_of_neg hneg, sampleRatio_of_nonpos hneg.le]
    norm_num
  · rw [f32Value_normalizeToFloat_of_zero hzero, sampleRatio_of_nonpos hzero.le, hzero]
    norm_num
  · obtain ⟨hmin, hmax⟩ := ratioExponent_of_pos hpos
    have herror := rn32_error (n := s.toInt.natAbs) (d := 32767) (by omega) (by omega) hmin (by omega) false
    rw [normalizeToFloat_of_pos hpos, sampleRatio_of_pos hpos, ← cast_natAbs_of_pos hpos]
    calc _ ≤ (2 : ℚ) ^ (ratioExponent s.toInt.natAbs 32767 - 24) := by simpa using herror
      _ ≤ 2 ^ (-24 : ℤ) := zpow_le_zpow_right₀ one_le_two (by omega)
      _ = 1 / 2 ^ 24 := by norm_num

/-- Neighbouring samples' quotients are at least `2^-15` apart. -/
theorem sampleRatio_gap {s r : S16} (h : s.toInt < r.toInt) : sampleRatio s + 1 / 2 ^ 15 ≤ sampleRatio r := by
  have hstep : (s.toInt : ℚ) + 1 ≤ r.toInt := by exact_mod_cast h
  rcases le_or_gt r.toInt 0 with hr | hr
  · rw [sampleRatio_of_nonpos hr, sampleRatio_of_nonpos (h.le.trans hr)]
    linarith
  · have hr' : (1 : ℚ) ≤ r.toInt := by exact_mod_cast hr
    rw [sampleRatio_of_pos hr]
    rcases le_or_gt s.toInt 0 with hs | hs
    · have hs' : (s.toInt : ℚ) ≤ 0 := by exact_mod_cast hs
      rw [sampleRatio_of_nonpos hs]
      linarith
    · rw [sampleRatio_of_pos hs]
      linarith

/-- R119 (d): the quotients lie farther apart than the two rounding errors reach. -/
theorem f32Value_normalizeToFloat_lt {s r : S16} (h : s.toInt < r.toInt) :
    f32Value (normalizeToFloat s) < f32Value (normalizeToFloat r) := by
  obtain ⟨-, hs⟩ := abs_le.1 (normalizeToFloat_error s)
  obtain ⟨hr, -⟩ := abs_le.1 (normalizeToFloat_error r)
  have hgap := sampleRatio_gap h
  linarith

theorem f32Value_normalizeToFloat_le {s r : S16} (h : s.toInt ≤ r.toInt) :
    f32Value (normalizeToFloat s) ≤ f32Value (normalizeToFloat r) := by
  rcases h.eq_or_lt with heq | hlt
  · rw [BitVec.eq_of_toInt_eq heq]
  · exact (f32Value_normalizeToFloat_lt hlt).le

/-- Settles O14: the two ends of the range are -1 and 1, and the function increases between them. -/
theorem normalizationIsStrictlyIncreasing : Obligations.NormalizationIsStrictlyIncreasing := by
  refine ⟨fun s => ⟨f32Normal_normalizeToFloat s, ?_, ?_⟩, fun s r => f32Value_normalizeToFloat_lt⟩
  · have hleast : (-32768 : S16).toInt = -32768 := by decide
    calc (-1 : ℚ) = ((-32768 : S16).toInt : ℚ) / 32768 := by
          rw [hleast]
          norm_num
      _ = f32Value (normalizeToFloat (-32768)) := (f32Value_normalizeToFloat_of_neg (by decide)).symm
      _ ≤ f32Value (normalizeToFloat s) := f32Value_normalizeToFloat_le (toInt_s16_bounds s).1
  · calc f32Value (normalizeToFloat s) ≤ f32Value (normalizeToFloat 32767) :=
          f32Value_normalizeToFloat_le (toInt_s16_bounds s).2
      _ = 1 := f32Value_normalizeToFloat_of_max (by decide)

end Sys2Proof.Proofs
end

section
/-! The sample predictor (spec/41_sample_predictor.md R130): the nibble as a signed integer (R112), and the sample as one clamped sum. -/

namespace Sys2Proof.Proofs

open Sys2Proof.Machine Sys2Proof.Claims

/-- R112: codes 8 to 15 stand for -8 to -1. -/
theorem signExtend4_toInt (n : Nibble) :
    (signExtend4 n).toInt = if n.toNat ≤ 7 then (n.toNat : Int) else (n.toNat : Int) - 16 := by
  rw [signExtend4, BitVec.toInt_signExtend_of_le (by decide), BitVec.toInt_eq_toNat_cond]
  split <;> split <;> omega

theorem prediction_eq_int_tdiv (cur prev a b : S16) :
    prediction cur prev a b = Int.tdiv (cur.toInt * a.toInt + prev.toInt * b.toInt) 256 :=
  tdiv_eq_int_tdiv _

/-- Settles O9: the clamp, the division and the signed nibble are each read as integers. -/
theorem sampleIsClampedPrediction : Obligations.SampleIsClampedPrediction := by
  intro n cur prev a b delta
  rw [computeSample, saturate16_toInt_eq_max_min, prediction_eq_int_tdiv, signExtend4_toInt]

end Sys2Proof.Proofs
end

section
/-! The delta adaptation (spec/42_delta_adaptation.md): the new delta as one clamped quotient (R140), and where a shrinking delta settles (R145). -/

namespace Sys2Proof.Proofs

open Sys2Proof.Machine Sys2Proof.Claims

/-! ### The new delta as an integer (R140) -/

theorem computeDelta_toInt (t : Vector S16 16) (n : Nibble) (d : S16) :
    (computeDelta t n d).toInt = max 16 (min 32767 (Int.tdiv ((t.get n.toFin).toInt * d.toInt) 256)) := by
  rw [computeDelta, clampDelta_toInt, saturate_eq_max_min (by decide), adaptEntry, Config.scale, tdiv_eq_int_tdiv]

/-- Settles O10: the clamp and the division are each read as integers. -/
theorem adaptedDeltaIsClampedQuotient : Obligations.AdaptedDeltaIsClampedQuotient :=
  fun t n d => ⟨computeDelta_toInt t n d, computeDelta_bounds t n d⟩

/-! ### A shrinking delta (R145) -/

/-- The integer that `ComputeDelta` with multiplier 230 makes of an old delta. -/
def shrinkDelta (v : Int) : Int := max 16 (min 32767 (Int.tdiv (230 * v) 256))

theorem shrinkDelta_monotone : Monotone shrinkDelta := fun _ _ h =>
  max_le_max_left _ (min_le_min_left _ (Int.tdiv_le_tdiv (by decide) (Int.mul_le_mul_of_nonneg_left h (by decide))))

/-- R145, the worked sequence, evaluated: the largest s16 comes down to the floor in 69 applications. -/
theorem shrinkDelta_iterate_sixtyNine : shrinkDelta^[69] 32767 = 16 := by
  simp [Function.iterate_succ_apply, shrinkDelta]

/-- The floor is a fixed point (R144 (a)), so what has come down to it stays. -/
theorem shrinkDelta_iterate_max {k : Nat} (h : 69 ≤ k) : shrinkDelta^[k] 32767 = 16 := by
  have hfixed : shrinkDelta 16 = 16 := by decide
  obtain ⟨j, rfl⟩ := Nat.exists_eq_add_of_le' h
  rw [Function.iterate_add_apply, shrinkDelta_iterate_sixtyNine, Function.iterate_fixed hfixed]

section Shrinking
variable {t : Vector S16 16} (h : t.get 0 = 230#16)
include h

theorem computeDelta_zero_semiconj : Function.Semiconj BitVec.toInt (computeDelta t 0#4) shrinkDelta := by
  intro d
  have hentry : (t.get (0#4).toFin).toInt = 230 := congrArg BitVec.toInt h
  rw [computeDelta_toInt, hentry, shrinkDelta]

/-- No start is above the largest s16, so by monotonicity none stays above the floor longer than that one. -/
theorem computeDelta_zero_iterate_le {k : Nat} (hk : 69 ≤ k) (d : S16) :
    ((computeDelta t 0#4)^[k] d).toInt ≤ 16 :=
  calc ((computeDelta t 0#4)^[k] d).toInt = shrinkDelta^[k] d.toInt :=
        (computeDelta_zero_semiconj h).iterate_right k d
    _ ≤ shrinkDelta^[k] 32767 := shrinkDelta_monotone.iterate k (toInt_s16_bounds d).2
    _ = 16 := shrinkDelta_iterate_max hk

end Shrinking

theorem computeDelta_iterate_ge (t : Vector S16 16) (n : Nibble) {k : Nat} (hk : 1 ≤ k) (d : S16) :
    16 ≤ ((computeDelta t n)^[k] d).toInt := by
  obtain ⟨j, rfl⟩ := Nat.exists_eq_add_of_le' hk
  rw [Function.iterate_succ_apply']
  exact (computeDelta_bounds t n _).1

/-- Settles O11: every application keeps the floor, and from the 69th on the delta is not above it either. -/
theorem shrinkingDeltaSettlesAtFloor : Obligations.ShrinkingDeltaSettlesAtFloor := by
  intro t d h
  refine ⟨fun k hk => computeDelta_iterate_ge t _ hk d, fun k hk => BitVec.eq_of_toInt_eq ?_⟩
  exact le_antisymm (computeDelta_zero_iterate_le h hk d) (computeDelta_iterate_ge t _ (by omega) d)

end Sys2Proof.Proofs
end

section
/-! CHECK and LATCH (spec/43_block_decoder.md R152 to R154): the error a launch is due, the pair of a predictor index as a function of the tables, and what the eight preamble forms make of them. -/

namespace Sys2Proof.Proofs

open Sys2Proof.Machine Sys2Proof.Claims

/-! ### CHECK (R152) -/

theorem argError_of_badCount {s : State} (h : s.argCount.toInt < 2 ∨ s.argCount.toInt % 2 = 1) :
    argError s = some .invalidSampleCount :=
  if_pos (decide_eq_true h)

theorem argError_of_capTooSmall {s : State} (hmin : 2 ≤ s.argCount.toInt) (heven : s.argCount.toInt % 2 = 0)
    (hcap : (s.argCap.toNat : Int) < s.argCount.toInt) : argError s = some .bufferTooSmall := by
  have hcount : badCount s = false := decide_eq_false (by omega)
  have hsmall : capTooSmall s = true := decide_eq_true hcap
  simp [argError, hcount, hsmall]

theorem checkError_of_unserved {s : State} {p : Byte} (hargs : ArgsValid s) (h7 : 7 ≤ p.toNat)
    (hp : s.argNextra.toNat ≤ p.toNat - 7) : checkError p s = some .malformedPreamble := by
  have hargError := (argError_none_iff s).2 hargs
  have hunserved : unserved p s = true := decide_eq_true ⟨h7, hp⟩
  simp [checkError, hargError, hunserved]

theorem step_of_argError {s : State} {e : BlockError} (hs : Started s) (he : argError s = some e) :
    step s = .next (raise e s) := by
  simp [step_of_started hs, checkStep, he]

/-- A launch that fails CHECK raises; byte 0 is needed only once the arguments are good (R152, R236). -/
theorem step_of_checkError {s : State} {p : Byte} {e : BlockError} (hs : Started s)
    (hbyte : ArgsValid s → inRead s 0 = some p) (he : checkError p s = some e) : step s = .next (raise e s) := by
  cases ha : argError s with
  | some e' =>
    obtain rfl : e' = e := by simpa [checkError, ha] using he
    exact step_of_argError hs ha
  | none =>
    obtain ⟨hunserved, rfl⟩ : unserved p s = true ∧ .malformedPreamble = e := by simpa [checkError, ha] using he
    simp [step_of_started hs, checkStep, ha, hbyte ((argError_none_iff s).1 ha), hunserved]

/-- With valid arguments and seven bytes the step is the preamble form they encode, served or not. -/
theorem step_eq_preamble {s : State} {b0 b1 b2 b3 b4 b5 b6 : Byte} (hs : Started s) (hargs : ArgsValid s)
    (h0 : inRead s 0 = some b0) (h1 : inRead s 1 = some b1) (h2 : inRead s 2 = some b2) (h3 : inRead s 3 = some b3)
    (h4 : inRead s 4 = some b4) (h5 : inRead s 5 = some b5) (h6 : inRead s 6 = some b6) :
    step s = preamble b0 (le16 b1 b2) (le16 b3 b4) (le16 b5 b6) s := by
  cases he : checkError b0 s with
  | some e => rw [step_of_checkError hs (fun _ => h0) he, preamble_error _ _ _ ((started_iff s).2 hs) he]
  | none =>
    obtain ⟨-, hserved⟩ := (checkError_none_iff b0 s).1 he
    have hfetch := fetchPreamble_of_bytes h0 h1 h2 h3 h4 h5 h6
    rw [step_of_started hs, ← exec_decodePreamble]
    simp [checkStep, (argError_none_iff s).2 hargs, h0, (unserved_iff b0 s).2 hserved, hfetch]

/-- Settles O3: the seven bytes are the decoder's whole input, and the step agrees with the preamble form on an unserved index too. -/
theorem startedStepExecutesDecodedPreamble : Obligations.StartedStepExecutesDecodedPreamble := by
  intro s b0 b1 b2 b3 b4 b5 b6 hs hargs h0 h1 h2 h3 h4 h5 h6
  exact ⟨rfl, by rw [exec_decodePreamble, step_eq_preamble hs hargs h0 h1 h2 h3 h4 h5 h6]⟩

/-- Settles O33: each clause is one error of CHECK, the later ones with the earlier tests passed. -/
theorem checkRaisesFirstFailingTest : Obligations.CheckRaisesFirstFailingTest := by
  intro s hs
  exact ⟨fun hcount => step_of_argError hs (argError_of_badCount hcount),
    fun hmin heven hcap => step_of_argError hs (argError_of_capTooSmall hmin heven hcap),
    fun hargs p hbyte h7 hp => step_of_checkError hs (fun _ => hbyte) (checkError_of_unserved hargs h7 hp)⟩

/-! ### The pair of a predictor index (R154) -/

/-- R154's pair as a function of the standard table and the elements of XC. -/
def pairOf (std : Vector CoefPair Config.stdCount) (xc : Nat → S16) (p : Byte) : CoefPair :=
  if h : p.toNat < 7 then std.get ⟨p.toNat, h⟩ else ⟨xc (2 * (p.toNat - 7)), xc (2 * (p.toNat - 7) + 1)⟩

theorem resolveCoef_of_std {p : Byte} (s : State) (h : p.toNat < 7) :
    resolveCoef p s = some (s.stdCoef.get ⟨p.toNat, h⟩) := dif_pos h

theorem resolveCoef_of_extra {p : Byte} {s : State} (h : 7 ≤ p.toNat) {a b : S16}
    (ha : xcRead s (2 * (p.toNat - 7)) = some a) (hb : xcRead s (2 * (p.toNat - 7) + 1) = some b) :
    resolveCoef p s = some ⟨a, b⟩ := by
  have hstd : ¬ p.toNat < Config.stdCount := not_lt.2 h
  simp [resolveCoef, hstd, extraPair, ha, hb]

theorem extraPair_some {i : Nat} {s : State} {pair : CoefPair} (h : extraPair i s = some pair) :
    pair = ⟨xcFun s (2 * i), xcFun s (2 * i + 1)⟩ := by
  unfold extraPair at h
  split at h
  · rename_i a b ha hb
    cases h
    simp [xcFun, ha, hb]
  · cases h

theorem resolveCoef_some {p : Byte} {s : State} {pair : CoefPair} (h : resolveCoef p s = some pair) :
    pair = pairOf s.stdCoef (xcFun s) p := by
  by_cases hstd : p.toNat < 7
  · obtain rfl : s.stdCoef.get ⟨p.toNat, hstd⟩ = pair := by simpa [resolveCoef_of_std s hstd] using h
    rw [pairOf, dif_pos hstd]
  · rw [pairOf, dif_neg hstd]
    rw [resolveCoef, dif_neg hstd] at h
    exact extraPair_some h

/-! ### The preamble forms (R161 to R168) -/

theorem preamble_latched {p : Byte} {s : State} {pair : CoefPair} (hs : Started s) (hargs : ArgsValid s)
    (hserved : Served p s) (hpair : resolveCoef p s = some pair) (d c q : S16) :
    preamble p d c q s = .next (latched p d c q pair.a pair.b s) :=
  preamble_latch d c q ((started_iff s).2 hs) ((checkError_none_iff p s).2 ⟨hargs, hserved⟩) hpair

/-- A standard index needs nothing of XC. -/
theorem preamble_of_std {p : Byte} {s : State} (hs : Started s) (hargs : ArgsValid s) (hp : p.toNat < 7)
    (d c q : S16) : preamble p d c q s =
      .next (latched p d c q (s.stdCoef.get ⟨p.toNat, hp⟩).a (s.stdCoef.get ⟨p.toNat, hp⟩).b s) :=
  preamble_latched hs hargs (.inl hp) (resolveCoef_of_std s hp) d c q

/-- Settles O16: the seven forms are one operation at the seven standard indices. -/
theorem standardPreamblesTakeTablePair : Obligations.StandardPreamblesTakeTablePair := by
  intro s d c q hs hargs
  have hstd (p : Byte) (hp : p.toNat < 7) := preamble_of_std hs hargs hp d c q
  exact ⟨hstd 0 (by decide), hstd 1 (by decide), hstd 2 (by decide), hstd 3 (by decide), hstd 4 (by decide),
    hstd 5 (by decide), hstd 6 (by decide)⟩

/-- A pair read as integers gives the truncating quotient of its sum. -/
theorem prediction_of_toInt {a b : S16} {m k : Int} (ha : a.toInt = m) (hb : b.toInt = k) (x y : S16) :
    prediction x y a b = Int.tdiv (m * x.toInt + k * y.toInt) 256 := by
  rw [prediction_eq_int_tdiv, ha, hb, mul_comm m, mul_comm k]

/-- The pair (256, 0) divides out: CUR comes back whole. -/
theorem prediction_unitPair (x y : S16) : prediction x y 256 0 = x.toInt := by
  rw [prediction_of_toInt (m := 256) (k := 0) (by decide) (by decide), zero_mul, add_zero]
  exact Int.mul_tdiv_cancel_left _ (by decide)

/-- Settles O15: PRE.S0 at the source's pair, whose prediction is CUR. -/
theorem preS0LatchesUnitPair : Obligations.PreS0LatchesUnitPair := by
  intro s d c q hs hargs hpair
  refine ⟨?_, prediction_unitPair, fun n x y e => ?_⟩
  · have hlatch := (standardPreamblesTakeTablePair s d c q hs hargs).1
    rwa [hpair] at hlatch
  · rw [computeSample, prediction_unitPair, signExtend4_toInt]

theorem prediction_defaultPairs (x y : S16) :
    prediction x y 512 (-256) = 2 * x.toInt - y.toInt ∧ prediction x y 0 0 = 0 ∧
      prediction x y 192 64 = Int.tdiv (192 * x.toInt + 64 * y.toInt) 256 ∧
      prediction x y 240 0 = Int.tdiv (240 * x.toInt) 256 ∧
      prediction x y 460 (-208) = Int.tdiv (460 * x.toInt - 208 * y.toInt) 256 ∧
      prediction x y 392 (-232) = Int.tdiv (392 * x.toInt - 232 * y.toInt) 256 := by
  refine ⟨?_, ?_, ?_, ?_, ?_, ?_⟩
  · have hsum : 512 * x.toInt + -256 * y.toInt = (2 * x.toInt - y.toInt) * 256 := by ring
    rw [prediction_of_toInt (m := 512) (k := -256) (by decide) (by decide), hsum]
    exact Int.mul_tdiv_cancel _ (by decide)
  · rw [prediction_of_toInt (m := 0) (k := 0) (by decide) (by decide)]
    simp
  · exact prediction_of_toInt (by decide) (by decide) x y
  · rw [prediction_of_toInt (m := 240) (k := 0) (by decide) (by decide)]
    simp
  · rw [prediction_of_toInt (m := 460) (k := -208) (by decide) (by decide), neg_mul, sub_eq_add_neg]
  · rw [prediction_of_toInt (m := 392) (k := -232) (by decide) (by decide), neg_mul, sub_eq_add_neg]

/-- Settles O17: the standard forms at the default table, and the quotients of its pairs. -/
theorem defaultPairsGiveTheirPredictions : Obligations.DefaultPairsGiveTheirPredictions := by
  intro s d c q hs hargs htable
  obtain ⟨-, h1, h2, h3, h4, h5, h6⟩ := standardPreamblesTakeTablePair s d c q hs hargs
  rw [htable] at h1 h2 h3 h4 h5 h6
  exact ⟨h1, h2, h3, h4, h5, h6, prediction_defaultPairs⟩

/-- Settles O18: an index past ARG_NEXTRA fails CHECK, another one finds its pair in XC. -/
theorem preXLatchesExtraPairOrRaises : Obligations.PreXLatchesExtraPairOrRaises := by
  intro s p d c q h7 hs hargs
  refine ⟨fun hp => ?_, fun hp a b ha hb => ?_, by decide⟩
  · exact preamble_error d c q ((started_iff s).2 hs) (checkError_of_unserved hargs h7 hp)
  · exact preamble_latched hs hargs (.inr hp) (resolveCoef_of_extra h7 ha hb) d c q

theorem exec_eq_preamble {i : Instr} (hi : i.format = .P) (s : State) :
    ∃ p d c q, exec i s = preamble p d c q s := by
  obtain ⟨-, hP⟩ | ⟨hN, -⟩ | ⟨h, l, rfl, -⟩ := exec_cases i s
  · exact hP
  · exact absurd (hN.symm.trans hi) (by decide)
  · exact absurd hi (by simp [Instr.format])

/-- Settles O20: a preamble form raises or latches, and memory and setting are among the writes of neither. -/
theorem preambleFormsLeaveMemoryAlone : Obligations.PreambleFormsLeaveMemoryAlone := by
  intro i s t hi hexec
  obtain ⟨p, d, c, q, hp⟩ := exec_eq_preamble hi s
  obtain ⟨-, ⟨e, -, rfl⟩ | ⟨-, pair, -, rfl⟩⟩ := preamble_next (hp.symm.trans hexec)
  · exact ⟨fun _ => ⟨rfl, rfl, rfl⟩, ⟨rfl, rfl, rfl, rfl, rfl, rfl, rfl, rfl, rfl⟩,
      .inr ⟨rfl, rfl, rfl, rfl, rfl, rfl, rfl, rfl⟩⟩
  · exact ⟨fun _ => ⟨rfl, rfl, rfl⟩, ⟨rfl, rfl, rfl, rfl, rfl, rfl, rfl, rfl, rfl⟩, .inl ⟨rfl, rfl, rfl, rfl⟩⟩

/-! ### LATCH from IN (R153) -/

/-- R50: a little-endian field is two's complement. -/
theorem toInt_append (lo hi : Byte) : (hi ++ lo : S16).toInt =
    if lo.toNat + 256 * hi.toNat < 32768 then (lo.toNat : Int) + 256 * hi.toNat
    else (lo.toNat : Int) + 256 * hi.toNat - 65536 := by
  have hnat : (hi ++ lo : S16).toNat = lo.toNat + 256 * hi.toNat := by
    rw [BitVec.toNat_append, ← Nat.shiftLeft_add_eq_or_of_lt lo.isLt, Nat.shiftLeft_eq]
    omega
  rw [BitVec.toInt_eq_toNat_cond, hnat]
  split <;> split <;> omega

/-- Settles O21: the step of a launch is LATCH of its bytes with the pair of byte 0. -/
theorem latchLoadsLittleEndianFields : Obligations.LatchLoadsLittleEndianFields := by
  refine ⟨fun s hs => ?_, toInt_append⟩
  obtain ⟨pair, hpair, hstep⟩ := step_of_launchable hs
  obtain rfl := resolveCoef_some hpair
  refine ⟨_, fun hstd => ?_, fun hextra => ?_, hstep⟩
  · rw [pairOf, dif_pos hstd]
  · rw [pairOf, dif_neg (by omega)]

end Sys2Proof.Proofs
end

section
/-! The steps of R150 one by one (spec/43_block_decoder.md R151, R156, R158, R160, R169): what each answers in the phase it belongs to, and that an instruction out of its phase is refused. -/

namespace Sys2Proof.Proofs

open Sys2Proof.Machine Sys2Proof.Claims

/-! ### The nibble that is due (R158) -/

theorem fetchNibble_of_inRead {s : State} {b : Byte} (h : inRead s (7 + s.nidx.toNat / 2) = some b) :
    fetchNibble s = some (nibbleOf b s.nidx.toNat) := by
  simp [fetchNibble, pairOffset, h]

theorem fetchNibble_none_iff (s : State) : fetchNibble s = none ↔ inRead s (7 + s.nidx.toNat / 2) = none := by
  unfold fetchNibble pairOffset
  split <;> simp_all

theorem step_eq_exec_decodeNibble {s : State} {n : Nibble} (hd : NibbleDue s) (hn : fetchNibble s = some n) :
    step s = exec (decodeNibble n) s := by
  rw [exec_decodeNibble, nibble_of_nibbleDue hd, step_eq_stepped hd hn]

theorem step_of_missing_nibble {s : State} (hd : NibbleDue s) (hn : fetchNibble s = none) :
    step s = .refused .inputTooShort := by
  simp [step, hd.1, runStep, (nibbleDue_iff s).2 hd, hn]

/-- Settles O2: the half of the pair byte is NIDX's parity, and it is executed as the code it decodes to. -/
theorem runStepExecutesDecodedNibble : Obligations.RunStepExecutesDecodedNibble := by
  intro s hd
  refine ⟨fun b hb heven => ?_, fun b hb hodd => ?_, fun hb => ?_⟩
  · rw [step_eq_exec_decodeNibble hd (fetchNibble_of_inRead hb), nibbleOf, if_pos heven, highNibble]
  · rw [step_eq_exec_decodeNibble hd (fetchNibble_of_inRead hb), nibbleOf, if_neg (by omega), lowNibble]
  · exact step_of_missing_nibble hd ((fetchNibble_none_iff s).2 hb)

/-- Settles O22: a due nibble code completes, and DEC's step runs the one it fetches. -/
theorem nibbleCodeShiftsWindow : Obligations.NibbleCodeShiftsWindow := by
  intro n s hd
  refine ⟨?_, fun b hb => step_eq_stepped hd (fetchNibble_of_inRead hb)⟩
  rw [exec_decodeNibble, nibble_of_nibbleDue hd]

/-! ### Instructions out of phase -/

theorem preamble_outOfPhase {s : State} (h : ¬ Started s) (p : Byte) (d c q : S16) :
    preamble p d c q s = .refused .outOfPhase :=
  if_neg (mt (started_iff s).1 h)

theorem nibble_outOfPhase {s : State} (h : ¬ NibbleDue s) (n : Nibble) : nibble n s = .refused .outOfPhase :=
  if_neg (mt (nibbleDue_iff s).1 h)

/-- The low half of a pair byte is due after the high one only where two nibbles were due. -/
theorem not_nibbleDue_stepped {s : State} (hd : NibbleDue s)
    (hlast : ¬ (s.nidx.toNat : Int) + 1 < s.argCount.toInt - 2) (n : Nibble) : ¬ NibbleDue (stepped n s) := by
  rintro ⟨-, hlt⟩
  have hnidx : (stepped n s).nidx.toNat = s.nidx.toNat + 1 := nidx_succ hd
  have hlt' : ((stepped n s).nidx.toNat : Int) < s.argCount.toInt - 2 := hlt
  omega

/-- A pair byte is refused at an odd NIDX, at its high half, or at its low half. -/
theorem execPair_outOfPhase {s : State}
    (h : ¬ (s.phase = .run ∧ s.nidx.toNat % 2 = 0 ∧ (s.nidx.toNat : Int) + 1 < s.argCount.toInt - 2))
    (high low : Nibble) : execPair high low s = .refused .outOfPhase := by
  by_cases heven : s.nidx.toNat % 2 = 0
  · by_cases hd : NibbleDue s
    · have hlow := not_nibbleDue_stepped hd (fun hlt => h ⟨hd.1, heven, hlt⟩) high
      simp [execPair, heven, nibble_of_nibbleDue hd, andThen, nibble_outOfPhase hlow]
    · simp [execPair, heven, nibble_outOfPhase hd, andThen]
  · simp [execPair, heven]

theorem eq_pair_of_format {i : Instr} (hi : i.format = .B) : ∃ h l, i = .pair h l := by
  cases i with
  | pair h l => exact ⟨h, l, rfl⟩
  | _ => cases hi

/-- Settles O29: each format is one shared operation, refused outside its phase. -/
theorem instructionsOutOfPhaseAreRefused : Obligations.InstructionsOutOfPhaseAreRefused := by
  intro i s
  refine ⟨fun hi hs => ?_, fun hi hd => ?_, fun hi h => ?_⟩
  · obtain ⟨p, d, c, q, hp⟩ := exec_eq_preamble hi s
    rw [hp, preamble_outOfPhase hs]
  · obtain ⟨n, hn⟩ := exec_eq_nibble hi s
    rw [hn, nibble_outOfPhase hd]
  · obtain ⟨high, low, rfl⟩ := eq_pair_of_format hi
    exact execPair_outOfPhase h high low

/-! ### START, SEED0 and FINISH -/

/-- Settles O36: a START is the HOST's move at the head of its list. -/
theorem startWritesArgumentsOnly : Obligations.StartWritesArgumentsOnly :=
  fun _ _ _ hrest hhost => (step_of_atRest hrest).2 _ _ hhost

/-- Settles O30: `seed0` is the step of its phase, and its writes are those of R156. -/
theorem seed0EmitsPreviousSample : Obligations.Seed0EmitsPreviousSample :=
  fun _ hp => step_of_seed0 hp

/-- Settles O32: `finish` is the step at the last NIDX; a container's block size fits the cursor, since ARG_COUNT does its register. -/
theorem finishReportsCursors : Obligations.FinishReportsCursors := by
  intro s hp hlast
  refine ⟨step_of_finishDue hp hlast, fun align halign hcount => ?_⟩
  have hfit := BitVec.toInt_lt (x := s.argCount)
  simp only [hcount, Nat.add_one_sub_one, Int.reducePow] at hfit
  rw [hcount, BitVec.toNat_ofInt]
  omega

end Sys2Proof.Proofs
end

section
/-! What stops a step (spec/43_block_decoder.md R150, spec/60_exceptions.md R221): from the invariant only a HOST at rest, or one that has not met its duties. -/

namespace Sys2Proof.Proofs

open Sys2Proof.Machine Sys2Proof.Claims

/-- An answer that is a next state, or names a duty the HOST has not met (R236, R237). -/
def NextOrShort (o : Answer) : Prop :=
  (∃ t, o = .next t) ∨ o = .refused .inputTooShort ∨ o = .refused .extraTableTooShort

theorem phase_cases (s : State) : Active s ∨ Started s ∨ AtRest s := by
  unfold Active Started AtRest
  cases s.phase <;> cases s.startPending <;> simp

/-! ### Without the HOST's duties -/

theorem preamble_nextOrShort {s : State} (hc : checking s = true) (p : Byte) (d c q : S16) :
    NextOrShort (preamble p d c q s) := by
  cases he : checkError p s with
  | some e => exact .inl ⟨_, preamble_error d c q hc he⟩
  | none =>
    cases hp : resolveCoef p s with
    | some pair => exact .inl ⟨_, preamble_latch d c q hc he hp⟩
    | none => exact .inr (.inr (by simp [preamble, hc, he, hp]))

/-- Good arguments without the seven bytes: the step stops at a missing byte, or byte 0 alone is reported (R152). -/
theorem step_nextOrShort_of_missing_preamble {s : State} (hs : Started s) (ha : argError s = none)
    (hi : fetchPreamble s = none) : NextOrShort (step s) := by
  cases h0 : inRead s 0 with
  | none => exact .inr (.inl (by simp [step_of_started hs, checkStep, ha, h0]))
  | some p =>
    cases hu : unserved p s with
    | true =>
      have he : checkError p s = some .malformedPreamble := by simp [checkError, ha, hu]
      exact .inl ⟨_, step_of_checkError hs (fun _ => h0) he⟩
    | false => exact .inr (.inl (by simp [step_of_started hs, checkStep, ha, h0, hu, hi]))

theorem step_nextOrShort_of_started {s : State} (hs : Started s) : NextOrShort (step s) := by
  cases ha : argError s with
  | some e => exact .inl ⟨_, step_of_argError hs ha⟩
  | none =>
    cases hi : fetchPreamble s with
    | none => exact step_nextOrShort_of_missing_preamble hs ha hi
    | some i =>
      obtain ⟨_, _, _, _, _, _, _, h0, h1, h2, h3, h4, h5, h6, -⟩ := fetchPreamble_some hi
      rw [step_eq_preamble hs ((argError_none_iff s).1 ha) h0 h1 h2 h3 h4 h5 h6]
      exact preamble_nextOrShort ((started_iff s).2 hs) _ _ _ _

/-- In RUN a nibble is due or the block is finished, by the bound of the invariant on NIDX (R27). -/
theorem run_cases {s : State} (hinv : Inv s) (hp : s.phase = .run) :
    NibbleDue s ∨ (s.nidx.toNat : Int) = s.argCount.toInt - 2 := by
  obtain ⟨-, -, hle, -, -⟩ := hinv.active (.inr (.inr hp))
  exact hle.lt_or_eq.imp_left fun hlt => ⟨hp, hlt⟩

theorem step_nextOrShort_of_active {s : State} (hinv : Inv s) (ha : Active s) : NextOrShort (step s) := by
  obtain hp | hp | hp := ha
  · exact .inl ⟨_, step_of_seed0 hp⟩
  · exact .inl ⟨_, step_of_seed1 hp⟩
  · obtain hd | hlast := run_cases hinv hp
    · cases hn : fetchNibble s with
      | none => exact .inr (.inl (step_of_missing_nibble hd hn))
      | some n => exact .inl ⟨_, step_eq_stepped hd hn⟩
    · exact .inl ⟨_, step_of_finishDue hp hlast⟩

/-! ### With them -/

theorem zero_lt_blockBytes (s : State) : 0 < blockBytes s := by
  unfold blockBytes
  omega

/-- The pair byte of a due nibble is one of the block's bytes (R60, R158). -/
theorem fetchNibble_of_supplied {s : State} (hd : NibbleDue s) (hargs : ArgsValid s) (hin : InputSupplied s) :
    fetchNibble s = some (nibbleOf (inFun s (7 + s.nidx.toNat / 2)) s.nidx.toNat) := by
  have hoff : 7 + s.nidx.toNat / 2 < blockBytes s := by
    have hlt := hd.2
    obtain ⟨-, heven, -⟩ := hargs
    unfold blockBytes
    omega
  exact fetchNibble_of_inRead (inRead_eq_inFun (hin _ hoff))

theorem step_next_of_started {s : State} (hs : Started s) (hin : InputSupplied s) (hxc : ExtraSupplied s) :
    ∃ t, step s = .next t := by
  cases he : checkError (inFun s 0) s with
  | some e => exact ⟨_, step_of_checkError hs (fun _ => inRead_eq_inFun (hin 0 (zero_lt_blockBytes s))) he⟩
  | none =>
    obtain ⟨hargs, hserved⟩ := (checkError_none_iff _ s).1 he
    obtain ⟨pair, -, hstep⟩ := step_of_launchable ⟨hs, hargs, hin, hxc, hserved⟩
    exact ⟨_, hstep⟩

theorem step_next_of_active {s : State} (hinv : Inv s) (ha : Active s) (hin : InputSupplied s) :
    ∃ t, step s = .next t := by
  obtain ⟨-, hargs, -, -, -⟩ := hinv.active ha
  obtain hp | hp | hp := ha
  · exact ⟨_, step_of_seed0 hp⟩
  · exact ⟨_, step_of_seed1 hp⟩
  · obtain hd | hlast := run_cases hinv hp
    · exact ⟨_, step_eq_stepped hd (fetchNibble_of_supplied hd hargs hin)⟩
    · exact ⟨_, step_of_finishDue hp hlast⟩

/-! ### Progress -/

/-- Settles O48: at rest the HOST moves or nothing does; elsewhere the duties met give a next state, and without them only a refusal that names one is left. -/
theorem invariantStatesAreNeverStuck : Obligations.InvariantStatesAreNeverStuck := by
  intro s hinv
  by_cases hrest : AtRest s
  · obtain ⟨hstop, hmove⟩ := step_of_atRest hrest
    cases hhost : s.host with
    | nil => exact .inr (.inl ⟨hrest, rfl, hstop hhost⟩)
    | cons m rest => exact .inl ⟨_, hmove m rest hhost⟩
  · have hs : Active s ∨ Started s := (or_assoc.2 (phase_cases s)).resolve_right hrest
    by_cases hduty : InputSupplied s ∧ ExtraSupplied s
    · obtain ⟨hin, hxc⟩ := hduty
      exact .inl (hs.elim (step_next_of_active hinv · hin) (step_next_of_started · hin hxc))
    · exact (hs.elim (step_nextOrShort_of_active hinv) step_nextOrShort_of_started).imp_right
        fun hshort => .inr ⟨hs, hduty, hshort⟩

end Sys2Proof.Proofs
end

section
/-! `DecodeBlock` as a function (spec/43_block_decoder.md R170, R172): when it errs, what it answers otherwise, and on which nibbles each sample depends. -/

namespace Sys2Proof.Proofs

open Sys2Proof.Machine Sys2Proof.Claims

/-! ### The fold over the nibbles -/

section Fold
variable (adapt : Vector S16 Config.adaptCount) (pair : CoefPair) (inp : Nat → Byte)

theorem decodeNibbles_succ (k n : Nat) (delta cur prev : S16) :
    decodeNibbles adapt pair inp (k + 1) n delta cur prev =
      normalizeToFloat (computeSample (nibbleOf (inp (7 + n / 2)) n) cur prev pair.a pair.b delta) ::
        decodeNibbles adapt pair inp k (n + 1) (computeDelta adapt (nibbleOf (inp (7 + n / 2)) n) delta)
          (computeSample (nibbleOf (inp (7 + n / 2)) n) cur prev pair.a pair.b delta) cur := rfl

theorem decodeNibbles_length (k n : Nat) (delta cur prev : S16) :
    (decodeNibbles adapt pair inp k n delta cur prev).length = k := by
  induction k generalizing n delta cur prev with
  | zero => rfl
  | succ k ih => rw [decodeNibbles_succ, List.length_cons, ih]

/-- Fewer nibbles give the first samples of more (R172). -/
theorem decodeNibbles_take {j k : Nat} (h : j ≤ k) (n : Nat) (delta cur prev : S16) :
    (decodeNibbles adapt pair inp k n delta cur prev).take j = decodeNibbles adapt pair inp j n delta cur prev := by
  induction j generalizing k n delta cur prev with
  | zero => rfl
  | succ j ih =>
    obtain ⟨m, rfl⟩ := Nat.exists_eq_add_of_le' h
    rw [← Nat.add_assoc, decodeNibbles_succ, decodeNibbles_succ, List.take_succ_cons, ih (by omega)]

end Fold

/-- The sample of nibble `n + i` is read from the nibbles `n` to `n + i` (R172). -/
theorem decodeNibbles_getElem?_congr {adapt : Vector S16 Config.adaptCount} {pair : CoefPair} {inp inp' : Nat → Byte}
    {i k n : Nat} (h : ∀ m ≤ n + i, nibbleOf (inp' (7 + m / 2)) m = nibbleOf (inp (7 + m / 2)) m)
    (delta cur prev : S16) :
    (decodeNibbles adapt pair inp' k n delta cur prev)[i]? = (decodeNibbles adapt pair inp k n delta cur prev)[i]? := by
  induction k generalizing i n delta cur prev with
  | zero => rfl
  | succ k ih =>
    rw [decodeNibbles_succ, decodeNibbles_succ, h n (by omega)]
    cases i with
    | zero => rw [List.getElem?_cons_zero, List.getElem?_cons_zero]
    | succ i =>
      rw [List.getElem?_cons_succ, List.getElem?_cons_succ]
      exact ih (fun m hm => h m (by omega)) _ _ _

/-! ### The samples of a block -/

/-- The samples of a block whose pair is resolved: the seeds, and then one of each of `k` nibbles. -/
def blockSamples (adapt : Vector S16 Config.adaptCount) (pair : CoefPair) (inp : Nat → Byte) (k : Nat) : List F32 :=
  normalizeToFloat (le16 (inp 5) (inp 6)) :: normalizeToFloat (le16 (inp 3) (inp 4)) ::
    decodeNibbles adapt pair inp k 0 (le16 (inp 1) (inp 2)) (le16 (inp 3) (inp 4)) (le16 (inp 5) (inp 6))

theorem blockSamples_length (adapt : Vector S16 Config.adaptCount) (pair : CoefPair) (inp : Nat → Byte) (k : Nat) :
    (blockSamples adapt pair inp k).length = k + 2 := by
  simp [blockSamples, decodeNibbles_length]

theorem blockSamples_take (adapt : Vector S16 Config.adaptCount) (pair : CoefPair) (inp : Nat → Byte) {j k : Nat}
    (h : j ≤ k) : (blockSamples adapt pair inp k).take (j + 2) = blockSamples adapt pair inp j := by
  rw [blockSamples, List.take_succ_cons, List.take_succ_cons, decodeNibbles_take _ _ _ h, blockSamples]

theorem blockSamples_getElem?_congr (adapt : Vector S16 Config.adaptCount) (pair : CoefPair) {inp inp' : Nat → Byte}
    {n i : Nat} (k : Nat) (hpre : ∀ off < 7, inp' off = inp off)
    (hnib : ∀ m ≤ n, nibbleOf (inp' (7 + m / 2)) m = nibbleOf (inp (7 + m / 2)) m) (hi : i ≤ 2 + n) :
    (blockSamples adapt pair inp' k)[i]? = (blockSamples adapt pair inp k)[i]? := by
  simp only [blockSamples, hpre 1, hpre 2, hpre 3, hpre 4, hpre 5, hpre 6, Nat.reduceLT]
  match i with
  | 0 => rw [List.getElem?_cons_zero, List.getElem?_cons_zero]
  | 1 => simp only [List.getElem?_cons_succ, List.getElem?_cons_zero]
  | i + 2 =>
    simp only [List.getElem?_cons_succ]
    exact decodeNibbles_getElem?_congr (fun m hm => hnib m (by omega)) _ _ _

/-! ### Success and error -/

section Block
variable {std : Vector CoefPair Config.stdCount} {adapt : Vector S16 Config.adaptCount} {count : Int} {cap nx : Nat}
  {inp : Nat → Byte} {xc : Nat → S16}

/-- The three conditions of R170 under which a block decodes: those of CHECK (R152), of the function's own inputs. -/
structure Decodable (count : Int) (cap nx : Nat) (p : Byte) : Prop where
  goodCount : ¬ (count < 2 ∨ count % 2 = 1)
  roomy : ¬ (cap : Int) < count
  served : ¬ (7 ≤ p.toNat ∧ nx ≤ p.toNat - 7)

theorem decodeBlock_of_decodable (h : Decodable count cap nx (inp 0)) :
    decodeBlock std adapt count cap nx inp xc =
      .ok (blockSamples adapt (pairOf std xc (inp 0)) inp (count - 2).toNat, 7 + ((count - 2) / 2).toNat,
        count.toNat) := by
  rw [decodeBlock, if_neg h.goodCount, if_neg h.roomy]
  exact if_neg h.served

theorem decodable_of_ok {r : List F32 × Nat × Nat} (h : decodeBlock std adapt count cap nx inp xc = .ok r) :
    Decodable count cap nx (inp 0) := by
  unfold decodeBlock at h
  split at h
  · cases h
  · rename_i hcount
    split at h
    · cases h
    · rename_i hcap
      refine ⟨hcount, hcap, fun hp => ?_⟩
      rw [if_pos hp] at h
      cases h

theorem decodeBlock_ok {out : List F32} {consumed produced : Nat}
    (h : decodeBlock std adapt count cap nx inp xc = .ok (out, consumed, produced)) :
    out = blockSamples adapt (pairOf std xc (inp 0)) inp (count - 2).toNat := by
  rw [decodeBlock_of_decodable (decodable_of_ok h)] at h
  cases h
  rfl

/-- The three errors of R170, each with the earlier tests passed. -/
theorem decodeBlock_error {e : BlockError} (h : decodeBlock std adapt count cap nx inp xc = .error e) :
    ((count < 2 ∨ count % 2 = 1) ∧ e = .invalidSampleCount) ∨
    (¬ (count < 2 ∨ count % 2 = 1) ∧ (cap : Int) < count ∧ e = .bufferTooSmall) ∨
    (¬ (count < 2 ∨ count % 2 = 1) ∧ ¬ (cap : Int) < count ∧ (7 ≤ (inp 0).toNat ∧ nx ≤ (inp 0).toNat - 7) ∧
      e = .malformedPreamble) := by
  unfold decodeBlock at h
  split at h
  · rename_i hcount
    cases h
    exact .inl ⟨hcount, rfl⟩
  · rename_i hcount
    split at h
    · rename_i hcap
      cases h
      exact .inr (.inl ⟨hcount, hcap, rfl⟩)
    · rename_i hcap
      refine .inr (.inr ⟨hcount, hcap, ?_⟩)
      by_cases hp : 7 ≤ (inp 0).toNat ∧ nx ≤ (inp 0).toNat - 7
      · rw [if_pos hp] at h
        cases h
        exact ⟨hp, rfl⟩
      · rw [if_neg hp] at h
        cases h

end Block

/-- Settles O52: the smaller count passes the same checks, and its fold is a prefix. -/
theorem smallerCountDecodesPrefix : Obligations.SmallerCountDecodesPrefix := by
  intro std adapt small full cap nx inp xc out consumed produced hmin heven hle h
  obtain ⟨-, hcap, hserved⟩ := decodable_of_ok h
  have hsmall : Decodable small cap nx (inp 0) := ⟨by omega, by omega, hserved⟩
  have hcount : small.toNat = (small - 2).toNat + 2 := by omega
  rw [decodeBlock_of_decodable hsmall, decodeBlock_ok h, hcount, blockSamples_take _ _ _ (by omega)]

/-- Settles O53: the pair and the seeds come from the preamble, and a sample of the fold from its nibbles. -/
theorem laterNibblesChangeNoEarlierSample : Obligations.LaterNibblesChangeNoEarlierSample := by
  intro std adapt count cap nx n inp inp' xc out out' c c' p p' hpre hnib h h' i hi
  rw [decodeBlock_ok h, decodeBlock_ok h', hpre 0 (by decide)]
  exact blockSamples_getElem?_congr _ _ _ hpre hnib hi

end Sys2Proof.Proofs
end

section
/-! A launched decode against `DecodeBlock` (spec/43_block_decoder.md R157, R170): what a run writes to OUT is composed from what its steps write. -/

namespace Sys2Proof.Proofs

open Sys2Proof.Machine Sys2Proof.Claims

/-! ### What is written to OUT -/

/-- Between `s` and `t` DEC wrote `fs` to OUT, from element `i` on and in order, and nothing else in HOST memory. -/
structure Emits (i : Nat) (fs : List F32) (s t : State) : Prop where
  base : t.outBase = s.outBase
  inMem : t.inMem = s.inMem
  xcMem : t.xcMem = s.xcMem
  written : ∀ j < fs.length, outRead t (i + j) = fs[j]?
  frame : ∀ a, a < s.outBase + i ∨ s.outBase + (i + fs.length) ≤ a → Memory.read t.outMem a = Memory.read s.outMem a

theorem emits_nil (i : Nat) (s : State) : Emits i [] s s := ⟨rfl, rfl, rfl, by simp, fun _ _ => rfl⟩

/-- A step whose one write to HOST memory is an element of OUT, whatever registers it writes. -/
theorem emits_singleton {i : Nat} {f : F32} {s t : State} (hbase : t.outBase = s.outBase) (hin : t.inMem = s.inMem)
    (hxc : t.xcMem = s.xcMem) (hout : t.outMem = Memory.write s.outMem (s.outBase + i) f) : Emits i [f] s t where
  base := hbase
  inMem := hin
  xcMem := hxc
  written j hj := by
    obtain rfl : j = 0 := by simpa using hj
    rw [outRead, hbase, hout]
    exact Memory.read_write_same _ _ f
  frame a ha := by
    rw [List.length_singleton] at ha
    rw [hout]
    exact Memory.read_write_other _ f (by omega)

theorem emits_shift (x d2 : S16) (s : State) : Emits (2 + s.nidx.toNat) [normalizeToFloat x] s (shift x d2 s) :=
  emits_singleton rfl rfl rfl rfl

/-- The second part lies past the first, so it leaves the first in place. -/
theorem emits_append {i : Nat} {fs gs : List F32} {s u t : State} (h : Emits i fs s u)
    (h' : Emits (i + fs.length) gs u t) : Emits i (fs ++ gs) s t where
  base := h'.base.trans h.base
  inMem := h'.inMem.trans h.inMem
  xcMem := h'.xcMem.trans h.xcMem
  written j hj := by
    rw [List.length_append] at hj
    rcases lt_or_ge j fs.length with hlt | hge
    · rw [List.getElem?_append_left hlt, ← h.written j hlt, outRead, outRead, h'.base]
      exact h'.frame _ (.inl (by omega))
    · rw [List.getElem?_append_right hge, ← h'.written (j - fs.length) (by omega)]
      congr 1
      omega
  frame a ha := by
    rw [List.length_append] at ha
    rw [h'.frame a (by rw [h.base]; omega), h.frame a (by omega)]

/-! ### The seeds (R156, R157) -/

/-- The state a launch has reached when both seeds are out. -/
def seeded (pair : CoefPair) (s : State) : State := seed1 (seed0 (latchIn (inFun s) pair s))

theorem run_launchable {s : State} (h : Launchable s) :
    ∃ pair, pair = pairOf s.stdCoef (xcFun s) (inFun s 0) ∧
      ∀ k, Sys2Proof.core.run (k + 3) s = Sys2Proof.core.run k (seeded pair s) := by
  obtain ⟨pair, hpair, hstep⟩ := step_of_launchable h
  refine ⟨pair, resolveCoef_some hpair, fun k => ?_⟩
  rw [run_next (k + 2) hstep, run_next (k + 1) (step_of_seed0 rfl), run_next k (step_of_seed1 rfl), seeded]

theorem emits_seeded (pair : CoefPair) (s : State) :
    Emits 0 [normalizeToFloat (le16 (inFun s 5) (inFun s 6)), normalizeToFloat (le16 (inFun s 3) (inFun s 4))] s
      (seeded pair s) :=
  have hfirst : Emits 0 [_] s (seed0 (latchIn (inFun s) pair s)) := emits_singleton rfl rfl rfl rfl
  emits_append hfirst (emits_singleton rfl rfl rfl rfl)

/-- Settles O31: SEED0 writes PREV and then SEED1 writes CUR, as LATCH took them from IN. -/
theorem seedsComeOutPreviousFirst : Obligations.SeedsComeOutPreviousFirst := by
  refine ⟨fun s hp => step_of_seed1 hp, fun s hs => ?_⟩
  obtain ⟨pair, -, hrun⟩ := run_launchable hs
  obtain ⟨-, -, -, hwritten, hframe⟩ := emits_seeded pair s
  refine ⟨seeded pair s, hrun 0, rfl, hwritten 0 (by simp), hwritten 1 (by simp), fun a h0 h1 => hframe a ?_⟩
  simp only [List.length_cons, List.length_nil]
  omega

/-! ### The nibbles (R158 to R160) and FINISH -/

/-- From RUN the nibbles left are decoded as `DecodeBlock` folds them, and FINISH follows. -/
theorem run_nibbles {k : Nat} {s : State} (hp : s.phase = .run) (hargs : ArgsValid s) (hin : InputSupplied s)
    (hk : (s.nidx.toNat : Int) + k = s.argCount.toInt - 2) :
    ∃ u, Sys2Proof.core.run (k + 1) s = .next (finish u) ∧ u.argCount = s.argCount ∧
      Emits (2 + s.nidx.toNat)
        (decodeNibbles s.adapt ⟨s.coefA, s.coefB⟩ (inFun s) k s.nidx.toNat s.delta s.cur s.prev) s u := by
  induction k generalizing s with
  | zero => exact ⟨s, run_next 0 (step_of_finishDue hp (by simpa using hk)), rfl, emits_nil _ s⟩
  | succ k ih =>
    have hd : NibbleDue s := ⟨hp, by omega⟩
    have hnidx := nidx_succ hd
    have hleft : ((s.nidx + 1).toNat : Int) + k = s.argCount.toInt - 2 := by omega
    rw [run_next (k + 1) (step_of_fetchNibble hd (fetchNibble_of_supplied hd hargs hin)), decodeNibbles_succ]
    obtain ⟨u, hrun, hcount, hemits⟩ := ih (s := shift _ _ s) hp hargs hin hleft
    rw [shift_nidx, hnidx, ← Nat.add_assoc] at hemits
    exact ⟨u, hrun, hcount, emits_append (emits_shift _ _ s) hemits⟩

/-! ### The whole decode -/

theorem decodable_of_launchable {s : State} (h : Launchable s) :
    Decodable s.argCount.toInt s.argCap.toNat s.argNextra.toNat (inFun s 0) := by
  obtain ⟨-, ⟨hmin, heven, hcap⟩, -, -, hserved⟩ := h
  exact ⟨by omega, by omega, by unfold Served at hserved; omega⟩

/-- The samples that R170 gives a state's inputs. -/
def samplesOf (s : State) : List F32 :=
  blockSamples s.adapt (pairOf s.stdCoef (xcFun s) (inFun s 0)) (inFun s) (nibbleCount s)

theorem blockOf_of_launchable {s : State} (h : Launchable s) :
    blockOf s = .ok (samplesOf s, 7 + ((s.argCount.toInt - 2) / 2).toNat, s.argCount.toInt.toNat) :=
  decodeBlock_of_decodable (decodable_of_launchable h)

theorem samplesOf_length {s : State} (h : ArgsValid s) : ((samplesOf s).length : Int) = s.argCount.toInt := by
  have hmin := h.1
  rw [samplesOf, blockSamples_length, nibbleCount]
  omega

/-- A sample count is non-negative, so its two readings agree (R30). -/
theorem argCount_toNat {s : State} (h : ArgsValid s) : s.argCount.toNat = s.argCount.toInt.toNat := by
  have hmin := h.1
  rw [BitVec.toInt_eq_toNat_cond] at hmin ⊢
  split at hmin <;> omega

/-- The whole run of a launch: the samples of the block, then FINISH. -/
theorem run_decode {s : State} (h : Launchable s) :
    ∃ u, Sys2Proof.core.run (nibbleCount s + 4) s = .next (finish u) ∧ u.argCount = s.argCount ∧
      Emits 0 (samplesOf s) s u := by
  obtain ⟨pair, rfl, hrun⟩ := run_launchable h
  obtain ⟨-, hargs, hin, -, -⟩ := h
  have hleft : (0 : Int) + nibbleCount s = s.argCount.toInt - 2 := by
    have hmin := hargs.1
    unfold nibbleCount
    omega
  obtain ⟨u, hdone, hcount, hemits⟩ := run_nibbles (s := seeded _ s) rfl hargs hin hleft
  exact ⟨u, (hrun _).trans hdone, hcount, emits_append (emits_seeded _ s) hemits⟩

/-- Settles O49: the run writes the samples of `DecodeBlock`, and the cursors fit their registers. -/
theorem decodeRunComputesDecodeBlock : Obligations.DecodeRunComputesDecodeBlock := by
  intro s h
  obtain ⟨u, hrun, hcount, -, hin, hxc, hwritten, hframe⟩ := run_decode h
  have hblock := blockOf_of_launchable h
  obtain ⟨-, hargs, -⟩ := h
  refine ⟨finish u, _, _, _, hblock, samplesOf_length hargs, hrun, rfl, rfl, ?_, ?_, fun i hi => ?_,
    fun a ha => hframe a (by simpa using ha), fun a => ?_⟩
  · have hfit := consumed_toNat hargs
    rw [finish_inConsumed, hcount]
    omega
  · rw [finish_outProduced, hcount, argCount_toNat hargs]
  · have hout := hwritten i hi
    rwa [Nat.zero_add, List.getElem?_eq_getElem hi] at hout
  · exact ⟨by rw [finish_inMem, hin], by rw [finish_xcMem, hxc]⟩

/-- Settles O50: each error of `DecodeBlock` is the error CHECK raises, and `raise` keeps the rest. -/
theorem failingDecodeReportsDecodeBlockError : Obligations.FailingDecodeReportsDecodeBlockError := by
  intro s e hs hbyte h
  have hstep : step s = .next (raise e s) := by
    obtain ⟨hcount, rfl⟩ | ⟨hcount, hcap, rfl⟩ | ⟨hcount, hcap, hp, rfl⟩ := decodeBlock_error h
    · exact step_of_argError hs (argError_of_badCount hcount)
    · exact step_of_argError hs (argError_of_capTooSmall (by omega) (by omega) hcap)
    · have hargs : ArgsValid s := ⟨by omega, by omega, by omega⟩
      exact step_of_checkError hs (fun _ => inRead_eq_inFun (hbyte hargs)) (checkError_of_unserved hargs hp.1 hp.2)
  exact ⟨_, hstep, rfl, rfl, rfl, rfl, fun _ => ⟨rfl, rfl, rfl⟩, ⟨rfl, rfl, rfl, rfl, rfl, rfl, rfl⟩,
    rfl, rfl, rfl, rfl, rfl, rfl, rfl, rfl, rfl⟩

end Sys2Proof.Proofs
end

section
/-! The sixteen nibble codes one by one (spec/44_nibble_codes.md R180 to R195): each is the NIB step at its signed operand and its multiplier. -/

namespace Sys2Proof.Proofs

open Sys2Proof.Machine Sys2Proof.Claims

/-! ### Operand and multiplier of a code -/

/-- A code enters the NIB step only as its signed operand and its table entry. -/
theorem nibble_eq_coded {n : Nibble} {s : State} {se m : Int} (hd : NibbleDue s) (hse : (signExtend4 n).toInt = se)
    (hm : (adaptEntry s.adapt n).toInt = m) : nibble n s = .next (coded se m s) := by
  subst hse hm
  exact nibble_of_nibbleDue hd n

theorem nibble_eq_coded_of_default {s : State} {se m : Int} (hd : NibbleDue s) (htable : s.adapt = Config.adapt)
    (n : Nibble) (hse : (signExtend4 n).toInt = se) (hm : (adaptEntry Config.adapt n).toInt = m) :
    nibble n s = .next (coded se m s) :=
  nibble_eq_coded hd hse (by rw [htable, hm])

/-- Settles O24: the operand and the default table's entry of each code are evaluated. -/
theorem positiveNibbleCodes : Obligations.PositiveNibbleCodes := by
  intro s hd htable
  have hcode {se m : Int} := nibble_eq_coded_of_default (se := se) (m := m) hd htable
  exact ⟨hcode 0x1 (by decide) (by decide), hcode 0x2 (by decide) (by decide), hcode 0x3 (by decide) (by decide),
    hcode 0x4 (by decide) (by decide), hcode 0x5 (by decide) (by decide), hcode 0x6 (by decide) (by decide),
    hcode 0x7 (by decide) (by decide)⟩

/-- Settles O25: as for the positive codes; the operand is below zero since bit 3 is the sign. -/
theorem negativeNibbleCodes : Obligations.NegativeNibbleCodes := by
  intro s hd htable
  have hcode {se m : Int} := nibble_eq_coded_of_default (se := se) (m := m) hd htable
  exact ⟨hcode 0x8 (by decide) (by decide), hcode 0x9 (by decide) (by decide), hcode 0xA (by decide) (by decide),
    hcode 0xB (by decide) (by decide), hcode 0xC (by decide) (by decide), hcode 0xD (by decide) (by decide),
    hcode 0xE (by decide) (by decide), hcode 0xF (by decide) (by decide)⟩

/-! ### The code that adds nothing (R180) -/

theorem coded_zero (m : Int) (s : State) :
    coded 0 m s = shifted (saturate16 (pred s)) (clampDelta (tdiv (m * s.delta.toInt) 256)) s := by
  rw [coded, mul_zero, add_zero]

/-- A multiplier below the divisor shrinks: a positive delta does not grow, and one that is not positive stays so. -/
theorem tdiv_230_le_max (v : Int) : tdiv (230 * v) 256 ≤ max 0 v := by
  by_cases hv : 0 ≤ 230 * v
  · rw [tdiv_of_nonneg _ hv]
    omega
  · rw [tdiv_of_neg _ (by omega)]
    omega

/-- Settles O23: operand 0 drops out of the sum, and the unclamped delta is at most the old one or zero. -/
theorem nib0EmitsPredictionItself : Obligations.Nib0EmitsPredictionItself := by
  intro s hd hentry
  have hshrink := tdiv_230_le_max s.delta.toInt
  refine ⟨?_, ?_, ?_⟩
  · rw [← coded_zero]
    exact nibble_eq_coded (n := 0x0) hd (by decide) (congrArg BitVec.toInt hentry)
  · rw [clampDelta_toInt, saturate_eq_max_min (by decide)]
    omega
  · have hmax := (toInt_s16_bounds s.delta).2
    omega

end Sys2Proof.Proofs
end

section
/-! Reset and the HOST's duties (spec/70_reset_and_hazards.md): what reset leaves (R231), that a decode with its inputs supplied ends in the steps it has left (R245), and what is refused where the inputs fall short (R236, R237). -/

namespace Sys2Proof.Proofs

open Sys2Proof.Machine Sys2Proof.Claims

/-! ### Reset (R231) -/

/-- Settles O1: each register is evaluated. -/
theorem resetLeavesIdleDecoder : Obligations.ResetLeavesIdleDecoder :=
  ⟨rfl, rfl, rfl, rfl, rfl, rfl, rfl, rfl, rfl, rfl, rfl, rfl, rfl, rfl, rfl, rfl, rfl, rfl, rfl, rfl, rfl⟩

/-- Settles O46: empty memories are canonical, and every other clause is about a phase other than IDLE. -/
theorem resetSatisfiesInvariant : Obligations.ResetSatisfiesInvariant where
  memories := ⟨rfl, rfl, rfl⟩
  active ha := absurd ha (not_active_of_resting (.inl rfl))
  seeds := nofun
  floor := nofun
  done := nofun
  fault := nofun

/-! ### Bounded termination (R245) -/

/-- A run of `k` steps reaches DONE, reports OK and has produced `count` samples. -/
def FinishesIn (k : Nat) (count : Count) (s : State) : Prop :=
  ∃ t, Sys2Proof.core.run k s = .next t ∧ t.phase = .done ∧ t.status = .ok ∧ t.outProduced = count

theorem finishesIn_succ {k : Nat} {count : Count} {s t : State} (hstep : step s = .next t)
    (h : FinishesIn k count t) : FinishesIn (k + 1) count s := by
  rwa [FinishesIn, run_next k hstep]

/-- Each NIB step takes one nibble off those left, and FINISH is the last step. -/
theorem finishesIn_of_run {s : State} (hinv : Inv s) (hp : s.phase = .run) (hin : InputSupplied s) :
    FinishesIn (nibbleCount s - s.nidx.toNat + 1) s.argCount s := by
  obtain ⟨-, hargs, hle, -, -⟩ := hinv.active (.inr (.inr hp))
  have hleft : (s.nidx.toNat : Int) + (nibbleCount s - s.nidx.toNat : Nat) = s.argCount.toInt - 2 := by
    unfold nibbleCount
    omega
  obtain ⟨u, hrun, hcount, -⟩ := run_nibbles hp hargs hin hleft
  exact ⟨finish u, hrun, rfl, rfl, hcount⟩

theorem finishesIn_of_seed1 {s : State} (hinv : Inv s) (hp : s.phase = .seed1) (hin : InputSupplied s) :
    FinishesIn (nibbleCount s - s.nidx.toNat + 2) s.argCount s :=
  finishesIn_succ (step_of_seed1 hp) (finishesIn_of_run (inv_seed1 hinv hp) rfl hin)

theorem finishesIn_of_seed0 {s : State} (hinv : Inv s) (hp : s.phase = .seed0) (hin : InputSupplied s) :
    FinishesIn (nibbleCount s - s.nidx.toNat + 3) s.argCount s :=
  finishesIn_succ (step_of_seed0 hp) (finishesIn_of_seed1 (inv_seed0 hinv hp) rfl hin)

/-- Settles O54: each of the three phases of a decode is one seed nearer to the nibbles than the one before. -/
theorem decodeFinishesInCountedSteps : Obligations.DecodeFinishesInCountedSteps := by
  intro s hinv ha hin
  change FinishesIn _ s.argCount s
  obtain hp | hp | hp := ha
  · convert finishesIn_of_seed0 hinv hp hin using 1
    simp only [hp, if_true]
    omega
  · convert finishesIn_of_seed1 hinv hp hin using 1
    simp only [hp, reduceCtorEq, if_false, if_true]
    omega
  · convert finishesIn_of_run hinv hp hin using 1
    simp [hp]

/-! ### Inputs that fall short (R236, R237) -/

/-- The preamble needs each of its seven bytes (R59). -/
theorem fetchPreamble_none {s : State} {off : Nat} (hoff : off < 7) (h : inRead s off = none) :
    fetchPreamble s = none := by
  rw [Option.eq_none_iff_forall_ne_some]
  intro i hi
  obtain ⟨_, _, _, _, _, _, _, h0, h1, h2, h3, h4, h5, h6, -⟩ := fetchPreamble_some hi
  interval_cases off <;> simp_all

/-- Settles O34: CHECK reads byte 0 first, and the whole preamble once that index is served. -/
theorem missingPreambleByteIsRefused : Obligations.MissingPreambleByteIsRefused := by
  intro s hs hargs
  have hargError := (argError_none_iff s).2 hargs
  rw [step_of_started hs]
  refine ⟨fun h0 => by simp [checkStep, hargError, h0], fun p h0 hp hmissing => ?_⟩
  obtain ⟨off, hoff, hnone⟩ := hmissing
  simp [checkStep, hargError, h0, (unserved_iff p s).2 hp, fetchPreamble_none hoff hnone]

/-- An extra pair needs both of its elements (R61). -/
theorem resolveCoef_none {p : Byte} {s : State} (h7 : 7 ≤ p.toNat)
    (h : xcRead s (2 * (p.toNat - 7)) = none ∨ xcRead s (2 * (p.toNat - 7) + 1) = none) :
    resolveCoef p s = none := by
  rw [resolveCoef, dif_neg (not_lt.2 h7), extraPair]
  obtain h | h := h
  · simp [h]
  · simp [h]

/-- A served index without its pair passes CHECK and stops at LATCH. -/
theorem preamble_of_resolveCoef_none {p : Byte} {s : State} (hs : Started s) (hargs : ArgsValid s)
    (hserved : Served p s) (hpair : resolveCoef p s = none) (d c q : S16) :
    preamble p d c q s = .refused .extraTableTooShort := by
  have hcheck := (checkError_none_iff p s).2 ⟨hargs, hserved⟩
  simp [preamble, (started_iff s).2 hs, hcheck, hpair]

/-- Settles O19: ARG_NEXTRA lets the index pass CHECK, and XC has no pair for it. -/
theorem preXRefusesMissingExtraPair : Obligations.PreXRefusesMissingExtraPair := by
  intro s p d c q h7 hs hargs hextra hmissing
  exact preamble_of_resolveCoef_none hs hargs (.inr hextra) (resolveCoef_none h7 hmissing) d c q

end Sys2Proof.Proofs
end
